-- ==== Sys2Proof/Word.lean ====
section
/-! DEFINITION. The two widths of the machine (R6): the 8-bit byte and the 16-bit word. -/

namespace Sys2Proof

/-- The addressable unit, and the width of a register half (R6). -/
abbrev Byte := BitVec 8

/-- The width of the six registers and of an address (R6). -/
abbrev Word := BitVec 16

end Sys2Proof
end

