-- ==== Sys2Proof/Syntax.lean ====
section
/-! DEFINITION. The instructions: one constructor per row of spec/opcode_table.json (R91, R94), its arguments the
immediate operand of the row's format (R81). -/

namespace Sys2Proof

/-- One constructor per row of the opcode table. `Byte` arguments are d8, e8 or a8, `Word` arguments d16 or a16 (R81).
`stop` keeps its ignored second byte (R262). `prefixCb` is the escape row 0xCB with the second byte that selects from the
secondary table (R263). Rows with an operand stand first, then the others, each group in the table's order. The `illegalXX` rows are the eleven illegal first bytes (R92). -/
inductive Instr where
  /-- `LD BC,d16`, 0x01 (R141). -/
  | ldBcD16 (n : Word)
  /-- `LD B,d8`, 0x06 (R114). -/
  | ldBD8 (n : Byte)
  /-- `LD (a16),SP`, 0x08 (R142). -/
  | ldMemA16Sp (a : Word)
  /-- `LD C,d8`, 0x0E (R114). -/
  | ldCD8 (n : Byte)
  /-- `STOP`, 0x10 (R262). -/
  | stop (n : Byte)
  /-- `LD DE,d16`, 0x11 (R141). -/
  | ldDeD16 (n : Word)
  /-- `LD D,d8`, 0x16 (R114). -/
  | ldDD8 (n : Byte)
  /-- `JR e8`, 0x18 (R234). -/
  | jrE8 (e : Byte)
  /-- `LD E,d8`, 0x1E (R114). -/
  | ldED8 (n : Byte)
  /-- `JR NZ,e8`, 0x20 (R235). -/
  | jrNzE8 (e : Byte)
  /-- `LD HL,d16`, 0x21 (R141). -/
  | ldHlD16 (n : Word)
  /-- `LD H,d8`, 0x26 (R114). -/
  | ldHD8 (n : Byte)
  /-- `JR Z,e8`, 0x28 (R235). -/
  | jrZE8 (e : Byte)
  /-- `LD L,d8`, 0x2E (R114). -/
  | ldLD8 (n : Byte)
  /-- `JR NC,e8`, 0x30 (R235). -/
  | jrNcE8 (e : Byte)
  /-- `LD SP,d16`, 0x31 (R141). -/
  | ldSpD16 (n : Word)
  /-- `LD (HL),d8`, 0x36 (R115). -/
  | ldMemHlD8 (n : Byte)
  /-- `JR C,e8`, 0x38 (R235). -/
  | jrCE8 (e : Byte)
  /-- `LD A,d8`, 0x3E (R114). -/
  | ldAD8 (n : Byte)
  /-- `JP NZ,a16`, 0xC2 (R232). -/
  | jpNzA16 (a : Word)
  /-- `JP a16`, 0xC3 (R231). -/
  | jpA16 (a : Word)
  /-- `CALL NZ,a16`, 0xC4 (R237). -/
  | callNzA16 (a : Word)
  /-- `ADD A,d8`, 0xC6 (R163). -/
  | addAD8 (n : Byte)
  /-- `JP Z,a16`, 0xCA (R232). -/
  | jpZA16 (a : Word)
  /-- `PREFIX CB`, 0xCB (R263). -/
  | prefixCb (o : Byte)
  /-- `CALL Z,a16`, 0xCC (R237). -/
  | callZA16 (a : Word)
  /-- `CALL a16`, 0xCD (R236). -/
  | callA16 (a : Word)
  /-- `ADC A,d8`, 0xCE (R164). -/
  | adcAD8 (n : Byte)
  /-- `JP NC,a16`, 0xD2 (R232). -/
  | jpNcA16 (a : Word)
  /-- `CALL NC,a16`, 0xD4 (R237). -/
  | callNcA16 (a : Word)
  /-- `SUB A,d8`, 0xD6 (R165). -/
  | subAD8 (n : Byte)
  /-- `JP C,a16`, 0xDA (R232). -/
  | jpCA16 (a : Word)
  /-- `CALL C,a16`, 0xDC (R237). -/
  | callCA16 (a : Word)
  /-- `SBC A,d8`, 0xDE (R166). -/
  | sbcAD8 (n : Byte)
  /-- `LDH (a8),A`, 0xE0 (R122). -/
  | ldhMemA8A (n : Byte)
  /-- `AND A,d8`, 0xE6 (R167). -/
  | andAD8 (n : Byte)
  /-- `ADD SP,e8`, 0xE8 (R193). -/
  | addSpE8 (e : Byte)
  /-- `LD (a16),A`, 0xEA (R125). -/
  | ldMemA16A (a : Word)
  /-- `XOR A,d8`, 0xEE (R168). -/
  | xorAD8 (n : Byte)
  /-- `LDH A,(a8)`, 0xF0 (R121). -/
  | ldhAMemA8 (n : Byte)
  /-- `OR A,d8`, 0xF6 (R169). -/
  | orAD8 (n : Byte)
  /-- `LD HL,SP+e8`, 0xF8 (R144). -/
  | ldHlSpE8 (e : Byte)
  /-- `LD A,(a16)`, 0xFA (R120). -/
  | ldAMemA16 (a : Word)
  /-- `CP A,d8`, 0xFE (R170). -/
  | cpAD8 (n : Byte)
  /-- `NOP`, 0x00 (R260). -/
  | nop
  /-- `LD (BC),A`, 0x02 (R118). -/
  | ldMemBcA
  /-- `INC BC`, 0x03 (R191). -/
  | incBc
  /-- `INC B`, 0x04 (R171). -/
  | incB
  /-- `DEC B`, 0x05 (R172). -/
  | decB
  /-- `RLCA`, 0x07 (R200). -/
  | rlca
  /-- `ADD HL,BC`, 0x09 (R190). -/
  | addHlBc
  /-- `LD A,(BC)`, 0x0A (R116). -/
  | ldAMemBc
  /-- `DEC BC`, 0x0B (R192). -/
  | decBc
  /-- `INC C`, 0x0C (R171). -/
  | incC
  /-- `DEC C`, 0x0D (R172). -/
  | decC
  /-- `RRCA`, 0x0F (R202). -/
  | rrca
  /-- `LD (DE),A`, 0x12 (R119). -/
  | ldMemDeA
  /-- `INC DE`, 0x13 (R191). -/
  | incDe
  /-- `INC D`, 0x14 (R171). -/
  | incD
  /-- `DEC D`, 0x15 (R172). -/
  | decD
  /-- `RLA`, 0x17 (R201). -/
  | rla
  /-- `ADD HL,DE`, 0x19 (R190). -/
  | addHlDe
  /-- `LD A,(DE)`, 0x1A (R117). -/
  | ldAMemDe
  /-- `DEC DE`, 0x1B (R192). -/
  | decDe
  /-- `INC E`, 0x1C (R171). -/
  | incE
  /-- `DEC E`, 0x1D (R172). -/
  | decE
  /-- `RRA`, 0x1F (R203). -/
  | rra
  /-- `LD (HL+),A`, 0x22 (R126). -/
  | ldMemHlIncA
  /-- `INC HL`, 0x23 (R191). -/
  | incHl
  /-- `INC H`, 0x24 (R171). -/
  | incH
  /-- `DEC H`, 0x25 (R172). -/
  | decH
  /-- `DAA`, 0x27 (R173). -/
  | daa
  /-- `ADD HL,HL`, 0x29 (R190). -/
  | addHlHl
  /-- `LD A,(HL+)`, 0x2A (R127). -/
  | ldAMemHlInc
  /-- `DEC HL`, 0x2B (R192). -/
  | decHl
  /-- `INC L`, 0x2C (R171). -/
  | incL
  /-- `DEC L`, 0x2D (R172). -/
  | decL
  /-- `CPL`, 0x2F (R174). -/
  | cpl
  /-- `LD (HL-),A`, 0x32 (R128). -/
  | ldMemHlDecA
  /-- `INC SP`, 0x33 (R191). -/
  | incSp
  /-- `INC (HL)`, 0x34 (R171). -/
  | incMemHl
  /-- `DEC (HL)`, 0x35 (R172). -/
  | decMemHl
  /-- `SCF`, 0x37 (R175). -/
  | scf
  /-- `ADD HL,SP`, 0x39 (R190). -/
  | addHlSp
  /-- `LD A,(HL-)`, 0x3A (R129). -/
  | ldAMemHlDec
  /-- `DEC SP`, 0x3B (R192). -/
  | decSp
  /-- `INC A`, 0x3C (R171). -/
  | incA
  /-- `DEC A`, 0x3D (R172). -/
  | decA
  /-- `CCF`, 0x3F (R176). -/
  | ccf
  /-- `LD B,B`, 0x40 (R111). -/
  | ldBB
  /-- `LD B,C`, 0x41 (R111). -/
  | ldBC
  /-- `LD B,D`, 0x42 (R111). -/
  | ldBD
  /-- `LD B,E`, 0x43 (R111). -/
  | ldBE
  /-- `LD B,H`, 0x44 (R111). -/
  | ldBH
  /-- `LD B,L`, 0x45 (R111). -/
  | ldBL
  /-- `LD B,(HL)`, 0x46 (R112). -/
  | ldBMemHl
  /-- `LD B,A`, 0x47 (R111). -/
  | ldBA
  /-- `LD C,B`, 0x48 (R111). -/
  | ldCB
  /-- `LD C,C`, 0x49 (R111). -/
  | ldCC
  /-- `LD C,D`, 0x4A (R111). -/
  | ldCD
  /-- `LD C,E`, 0x4B (R111). -/
  | ldCE
  /-- `LD C,H`, 0x4C (R111). -/
  | ldCH
  /-- `LD C,L`, 0x4D (R111). -/
  | ldCL
  /-- `LD C,(HL)`, 0x4E (R112). -/
  | ldCMemHl
  /-- `LD C,A`, 0x4F (R111). -/
  | ldCA
  /-- `LD D,B`, 0x50 (R111). -/
  | ldDB
  /-- `LD D,C`, 0x51 (R111). -/
  | ldDC
  /-- `LD D,D`, 0x52 (R111). -/
  | ldDD
  /-- `LD D,E`, 0x53 (R111). -/
  | ldDE
  /-- `LD D,H`, 0x54 (R111). -/
  | ldDH
  /-- `LD D,L`, 0x55 (R111). -/
  | ldDL
  /-- `LD D,(HL)`, 0x56 (R112). -/
  | ldDMemHl
  /-- `LD D,A`, 0x57 (R111). -/
  | ldDA
  /-- `LD E,B`, 0x58 (R111). -/
  | ldEB
  /-- `LD E,C`, 0x59 (R111). -/
  | ldEC
  /-- `LD E,D`, 0x5A (R111). -/
  | ldED
  /-- `LD E,E`, 0x5B (R111). -/
  | ldEE
  /-- `LD E,H`, 0x5C (R111). -/
  | ldEH
  /-- `LD E,L`, 0x5D (R111). -/
  | ldEL
  /-- `LD E,(HL)`, 0x5E (R112). -/
  | ldEMemHl
  /-- `LD E,A`, 0x5F (R111). -/
  | ldEA
  /-- `LD H,B`, 0x60 (R111). -/
  | ldHB
  /-- `LD H,C`, 0x61 (R111). -/
  | ldHC
  /-- `LD H,D`, 0x62 (R111). -/
  | ldHD
  /-- `LD H,E`, 0x63 (R111). -/
  | ldHE
  /-- `LD H,H`, 0x64 (R111). -/
  | ldHH
  /-- `LD H,L`, 0x65 (R111). -/
  | ldHL
  /-- `LD H,(HL)`, 0x66 (R112). -/
  | ldHMemHl
  /-- `LD H,A`, 0x67 (R111). -/
  | ldHA
  /-- `LD L,B`, 0x68 (R111). -/
  | ldLB
  /-- `LD L,C`, 0x69 (R111). -/
  | ldLC
  /-- `LD L,D`, 0x6A (R111). -/
  | ldLD
  /-- `LD L,E`, 0x6B (R111). -/
  | ldLE
  /-- `LD L,H`, 0x6C (R111). -/
  | ldLH
  /-- `LD L,L`, 0x6D (R111). -/
  | ldLL
  /-- `LD L,(HL)`, 0x6E (R112). -/
  | ldLMemHl
  /-- `LD L,A`, 0x6F (R111). -/
  | ldLA
  /-- `LD (HL),B`, 0x70 (R113). -/
  | ldMemHlB
  /-- `LD (HL),C`, 0x71 (R113). -/
  | ldMemHlC
  /-- `LD (HL),D`, 0x72 (R113). -/
  | ldMemHlD
  /-- `LD (HL),E`, 0x73 (R113). -/
  | ldMemHlE
  /-- `LD (HL),H`, 0x74 (R113). -/
  | ldMemHlH
  /-- `LD (HL),L`, 0x75 (R113). -/
  | ldMemHlL
  /-- `HALT`, 0x76 (R261). -/
  | halt
  /-- `LD (HL),A`, 0x77 (R113). -/
  | ldMemHlA
  /-- `LD A,B`, 0x78 (R111). -/
  | ldAB
  /-- `LD A,C`, 0x79 (R111). -/
  | ldAC
  /-- `LD A,D`, 0x7A (R111). -/
  | ldAD
  /-- `LD A,E`, 0x7B (R111). -/
  | ldAE
  /-- `LD A,H`, 0x7C (R111). -/
  | ldAH
  /-- `LD A,L`, 0x7D (R111). -/
  | ldAL
  /-- `LD A,(HL)`, 0x7E (R112). -/
  | ldAMemHl
  /-- `LD A,A`, 0x7F (R111). -/
  | ldAA
  /-- `ADD A,B`, 0x80 (R163). -/
  | addAB
  /-- `ADD A,C`, 0x81 (R163). -/
  | addAC
  /-- `ADD A,D`, 0x82 (R163). -/
  | addAD
  /-- `ADD A,E`, 0x83 (R163). -/
  | addAE
  /-- `ADD A,H`, 0x84 (R163). -/
  | addAH
  /-- `ADD A,L`, 0x85 (R163). -/
  | addAL
  /-- `ADD A,(HL)`, 0x86 (R163). -/
  | addAMemHl
  /-- `ADD A,A`, 0x87 (R163). -/
  | addAA
  /-- `ADC A,B`, 0x88 (R164). -/
  | adcAB
  /-- `ADC A,C`, 0x89 (R164). -/
  | adcAC
  /-- `ADC A,D`, 0x8A (R164). -/
  | adcAD
  /-- `ADC A,E`, 0x8B (R164). -/
  | adcAE
  /-- `ADC A,H`, 0x8C (R164). -/
  | adcAH
  /-- `ADC A,L`, 0x8D (R164). -/
  | adcAL
  /-- `ADC A,(HL)`, 0x8E (R164). -/
  | adcAMemHl
  /-- `ADC A,A`, 0x8F (R164). -/
  | adcAA
  /-- `SUB A,B`, 0x90 (R165). -/
  | subAB
  /-- `SUB A,C`, 0x91 (R165). -/
  | subAC
  /-- `SUB A,D`, 0x92 (R165). -/
  | subAD
  /-- `SUB A,E`, 0x93 (R165). -/
  | subAE
  /-- `SUB A,H`, 0x94 (R165). -/
  | subAH
  /-- `SUB A,L`, 0x95 (R165). -/
  | subAL
  /-- `SUB A,(HL)`, 0x96 (R165). -/
  | subAMemHl
  /-- `SUB A,A`, 0x97 (R165). -/
  | subAA
  /-- `SBC A,B`, 0x98 (R166). -/
  | sbcAB
  /-- `SBC A,C`, 0x99 (R166). -/
  | sbcAC
  /-- `SBC A,D`, 0x9A (R166). -/
  | sbcAD
  /-- `SBC A,E`, 0x9B (R166). -/
  | sbcAE
  /-- `SBC A,H`, 0x9C (R166). -/
  | sbcAH
  /-- `SBC A,L`, 0x9D (R166). -/
  | sbcAL
  /-- `SBC A,(HL)`, 0x9E (R166). -/
  | sbcAMemHl
  /-- `SBC A,A`, 0x9F (R166). -/
  | sbcAA
  /-- `AND A,B`, 0xA0 (R167). -/
  | andAB
  /-- `AND A,C`, 0xA1 (R167). -/
  | andAC
  /-- `AND A,D`, 0xA2 (R167). -/
  | andAD
  /-- `AND A,E`, 0xA3 (R167). -/
  | andAE
  /-- `AND A,H`, 0xA4 (R167). -/
  | andAH
  /-- `AND A,L`, 0xA5 (R167). -/
  | andAL
  /-- `AND A,(HL)`, 0xA6 (R167). -/
  | andAMemHl
  /-- `AND A,A`, 0xA7 (R167). -/
  | andAA
  /-- `XOR A,B`, 0xA8 (R168). -/
  | xorAB
  /-- `XOR A,C`, 0xA9 (R168). -/
  | xorAC
  /-- `XOR A,D`, 0xAA (R168). -/
  | xorAD
  /-- `XOR A,E`, 0xAB (R168). -/
  | xorAE
  /-- `XOR A,H`, 0xAC (R168). -/
  | xorAH
  /-- `XOR A,L`, 0xAD (R168). -/
  | xorAL
  /-- `XOR A,(HL)`, 0xAE (R168). -/
  | xorAMemHl
  /-- `XOR A,A`, 0xAF (R168). -/
  | xorAA
  /-- `OR A,B`, 0xB0 (R169). -/
  | orAB
  /-- `OR A,C`, 0xB1 (R169). -/
  | orAC
  /-- `OR A,D`, 0xB2 (R169). -/
  | orAD
  /-- `OR A,E`, 0xB3 (R169). -/
  | orAE
  /-- `OR A,H`, 0xB4 (R169). -/
  | orAH
  /-- `OR A,L`, 0xB5 (R169). -/
  | orAL
  /-- `OR A,(HL)`, 0xB6 (R169). -/
  | orAMemHl
  /-- `OR A,A`, 0xB7 (R169). -/
  | orAA
  /-- `CP A,B`, 0xB8 (R170). -/
  | cpAB
  /-- `CP A,C`, 0xB9 (R170). -/
  | cpAC
  /-- `CP A,D`, 0xBA (R170). -/
  | cpAD
  /-- `CP A,E`, 0xBB (R170). -/
  | cpAE
  /-- `CP A,H`, 0xBC (R170). -/
  | cpAH
  /-- `CP A,L`, 0xBD (R170). -/
  | cpAL
  /-- `CP A,(HL)`, 0xBE (R170). -/
  | cpAMemHl
  /-- `CP A,A`, 0xBF (R170). -/
  | cpAA
  /-- `RET NZ`, 0xC0 (R239). -/
  | retNz
  /-- `POP BC`, 0xC1 (R149). -/
  | popBc
  /-- `PUSH BC`, 0xC5 (R147). -/
  | pushBc
  /-- `RST 0x00`, 0xC7 (R241). -/
  | rst00
  /-- `RET Z`, 0xC8 (R239). -/
  | retZ
  /-- `RET`, 0xC9 (R238). -/
  | ret
  /-- `RST 0x08`, 0xCF (R241). -/
  | rst08
  /-- `RET NC`, 0xD0 (R239). -/
  | retNc
  /-- `POP DE`, 0xD1 (R149). -/
  | popDe
  /-- `illegal`, 0xD3 (R266). -/
  | illegalD3
  /-- `PUSH DE`, 0xD5 (R147). -/
  | pushDe
  /-- `RST 0x10`, 0xD7 (R241). -/
  | rst10
  /-- `RET C`, 0xD8 (R239). -/
  | retC
  /-- `RETI`, 0xD9 (R240). -/
  | reti
  /-- `illegal`, 0xDB (R266). -/
  | illegalDB
  /-- `illegal`, 0xDD (R266). -/
  | illegalDD
  /-- `RST 0x18`, 0xDF (R241). -/
  | rst18
  /-- `POP HL`, 0xE1 (R149). -/
  | popHl
  /-- `LD (C),A`, 0xE2 (R124). -/
  | ldMemCA
  /-- `illegal`, 0xE3 (R266). -/
  | illegalE3
  /-- `illegal`, 0xE4 (R266). -/
  | illegalE4
  /-- `PUSH HL`, 0xE5 (R147). -/
  | pushHl
  /-- `RST 0x20`, 0xE7 (R241). -/
  | rst20
  /-- `JP (HL)`, 0xE9 (R233). -/
  | jpMemHl
  /-- `illegal`, 0xEB (R266). -/
  | illegalEB
  /-- `illegal`, 0xEC (R266). -/
  | illegalEC
  /-- `illegal`, 0xED (R266). -/
  | illegalED
  /-- `RST 0x28`, 0xEF (R241). -/
  | rst28
  /-- `POP AF`, 0xF1 (R150). -/
  | popAf
  /-- `LD A,(C)`, 0xF2 (R123). -/
  | ldAMemC
  /-- `DI`, 0xF3 (R264). -/
  | di
  /-- `illegal`, 0xF4 (R266). -/
  | illegalF4
  /-- `PUSH AF`, 0xF5 (R148). -/
  | pushAf
  /-- `RST 0x30`, 0xF7 (R241). -/
  | rst30
  /-- `LD SP,HL`, 0xF9 (R143). -/
  | ldSpHl
  /-- `EI`, 0xFB (R265). -/
  | ei
  /-- `illegal`, 0xFC (R266). -/
  | illegalFC
  /-- `illegal`, 0xFD (R266). -/
  | illegalFD
  /-- `RST 0x38`, 0xFF (R241). -/
  | rst38
  /-- `RLC B`, 0xCB 0x00 (R205). -/
  | cbRlcB
  /-- `RLC C`, 0xCB 0x01 (R205). -/
  | cbRlcC
  /-- `RLC D`, 0xCB 0x02 (R205). -/
  | cbRlcD
  /-- `RLC E`, 0xCB 0x03 (R205). -/
  | cbRlcE
  /-- `RLC H`, 0xCB 0x04 (R205). -/
  | cbRlcH
  /-- `RLC L`, 0xCB 0x05 (R205). -/
  | cbRlcL
  /-- `RLC (HL)`, 0xCB 0x06 (R205). -/
  | cbRlcMemHl
  /-- `RLC A`, 0xCB 0x07 (R205). -/
  | cbRlcA
  /-- `RRC B`, 0xCB 0x08 (R206). -/
  | cbRrcB
  /-- `RRC C`, 0xCB 0x09 (R206). -/
  | cbRrcC
  /-- `RRC D`, 0xCB 0x0A (R206). -/
  | cbRrcD
  /-- `RRC E`, 0xCB 0x0B (R206). -/
  | cbRrcE
  /-- `RRC H`, 0xCB 0x0C (R206). -/
  | cbRrcH
  /-- `RRC L`, 0xCB 0x0D (R206). -/
  | cbRrcL
  /-- `RRC (HL)`, 0xCB 0x0E (R206). -/
  | cbRrcMemHl
  /-- `RRC A`, 0xCB 0x0F (R206). -/
  | cbRrcA
  /-- `RL B`, 0xCB 0x10 (R207). -/
  | cbRlB
  /-- `RL C`, 0xCB 0x11 (R207). -/
  | cbRlC
  /-- `RL D`, 0xCB 0x12 (R207). -/
  | cbRlD
  /-- `RL E`, 0xCB 0x13 (R207). -/
  | cbRlE
  /-- `RL H`, 0xCB 0x14 (R207). -/
  | cbRlH
  /-- `RL L`, 0xCB 0x15 (R207). -/
  | cbRlL
  /-- `RL (HL)`, 0xCB 0x16 (R207). -/
  | cbRlMemHl
  /-- `RL A`, 0xCB 0x17 (R207). -/
  | cbRlA
  /-- `RR B`, 0xCB 0x18 (R208). -/
  | cbRrB
  /-- `RR C`, 0xCB 0x19 (R208). -/
  | cbRrC
  /-- `RR D`, 0xCB 0x1A (R208). -/
  | cbRrD
  /-- `RR E`, 0xCB 0x1B (R208). -/
  | cbRrE
  /-- `RR H`, 0xCB 0x1C (R208). -/
  | cbRrH
  /-- `RR L`, 0xCB 0x1D (R208). -/
  | cbRrL
  /-- `RR (HL)`, 0xCB 0x1E (R208). -/
  | cbRrMemHl
  /-- `RR A`, 0xCB 0x1F (R208). -/
  | cbRrA
  /-- `SLA B`, 0xCB 0x20 (R209). -/
  | cbSlaB
  /-- `SLA C`, 0xCB 0x21 (R209). -/
  | cbSlaC
  /-- `SLA D`, 0xCB 0x22 (R209). -/
  | cbSlaD
  /-- `SLA E`, 0xCB 0x23 (R209). -/
  | cbSlaE
  /-- `SLA H`, 0xCB 0x24 (R209). -/
  | cbSlaH
  /-- `SLA L`, 0xCB 0x25 (R209). -/
  | cbSlaL
  /-- `SLA (HL)`, 0xCB 0x26 (R209). -/
  | cbSlaMemHl
  /-- `SLA A`, 0xCB 0x27 (R209). -/
  | cbSlaA
  /-- `SRA B`, 0xCB 0x28 (R210). -/
  | cbSraB
  /-- `SRA C`, 0xCB 0x29 (R210). -/
  | cbSraC
  /-- `SRA D`, 0xCB 0x2A (R210). -/
  | cbSraD
  /-- `SRA E`, 0xCB 0x2B (R210). -/
  | cbSraE
  /-- `SRA H`, 0xCB 0x2C (R210). -/
  | cbSraH
  /-- `SRA L`, 0xCB 0x2D (R210). -/
  | cbSraL
  /-- `SRA (HL)`, 0xCB 0x2E (R210). -/
  | cbSraMemHl
  /-- `SRA A`, 0xCB 0x2F (R210). -/
  | cbSraA
  /-- `SWAP B`, 0xCB 0x30 (R211). -/
  | cbSwapB
  /-- `SWAP C`, 0xCB 0x31 (R211). -/
  | cbSwapC
  /-- `SWAP D`, 0xCB 0x32 (R211). -/
  | cbSwapD
  /-- `SWAP E`, 0xCB 0x33 (R211). -/
  | cbSwapE
  /-- `SWAP H`, 0xCB 0x34 (R211). -/
  | cbSwapH
  /-- `SWAP L`, 0xCB 0x35 (R211). -/
  | cbSwapL
  /-- `SWAP (HL)`, 0xCB 0x36 (R211). -/
  | cbSwapMemHl
  /-- `SWAP A`, 0xCB 0x37 (R211). -/
  | cbSwapA
  /-- `SRL B`, 0xCB 0x38 (R212). -/
  | cbSrlB
  /-- `SRL C`, 0xCB 0x39 (R212). -/
  | cbSrlC
  /-- `SRL D`, 0xCB 0x3A (R212). -/
  | cbSrlD
  /-- `SRL E`, 0xCB 0x3B (R212). -/
  | cbSrlE
  /-- `SRL H`, 0xCB 0x3C (R212). -/
  | cbSrlH
  /-- `SRL L`, 0xCB 0x3D (R212). -/
  | cbSrlL
  /-- `SRL (HL)`, 0xCB 0x3E (R212). -/
  | cbSrlMemHl
  /-- `SRL A`, 0xCB 0x3F (R212). -/
  | cbSrlA
  /-- `BIT 0,B`, 0xCB 0x40 (R213). -/
  | cbBit0B
  /-- `BIT 0,C`, 0xCB 0x41 (R213). -/
  | cbBit0C
  /-- `BIT 0,D`, 0xCB 0x42 (R213). -/
  | cbBit0D
  /-- `BIT 0,E`, 0xCB 0x43 (R213). -/
  | cbBit0E
  /-- `BIT 0,H`, 0xCB 0x44 (R213). -/
  | cbBit0H
  /-- `BIT 0,L`, 0xCB 0x45 (R213). -/
  | cbBit0L
  /-- `BIT 0,(HL)`, 0xCB 0x46 (R213). -/
  | cbBit0MemHl
  /-- `BIT 0,A`, 0xCB 0x47 (R213). -/
  | cbBit0A
  /-- `BIT 1,B`, 0xCB 0x48 (R213). -/
  | cbBit1B
  /-- `BIT 1,C`, 0xCB 0x49 (R213). -/
  | cbBit1C
  /-- `BIT 1,D`, 0xCB 0x4A (R213). -/
  | cbBit1D
  /-- `BIT 1,E`, 0xCB 0x4B (R213). -/
  | cbBit1E
  /-- `BIT 1,H`, 0xCB 0x4C (R213). -/
  | cbBit1H
  /-- `BIT 1,L`, 0xCB 0x4D (R213). -/
  | cbBit1L
  /-- `BIT 1,(HL)`, 0xCB 0x4E (R213). -/
  | cbBit1MemHl
  /-- `BIT 1,A`, 0xCB 0x4F (R213). -/
  | cbBit1A
  /-- `BIT 2,B`, 0xCB 0x50 (R213). -/
  | cbBit2B
  /-- `BIT 2,C`, 0xCB 0x51 (R213). -/
  | cbBit2C
  /-- `BIT 2,D`, 0xCB 0x52 (R213). -/
  | cbBit2D
  /-- `BIT 2,E`, 0xCB 0x53 (R213). -/
  | cbBit2E
  /-- `BIT 2,H`, 0xCB 0x54 (R213). -/
  | cbBit2H
  /-- `BIT 2,L`, 0xCB 0x55 (R213). -/
  | cbBit2L
  /-- `BIT 2,(HL)`, 0xCB 0x56 (R213). -/
  | cbBit2MemHl
  /-- `BIT 2,A`, 0xCB 0x57 (R213). -/
  | cbBit2A
  /-- `BIT 3,B`, 0xCB 0x58 (R213). -/
  | cbBit3B
  /-- `BIT 3,C`, 0xCB 0x59 (R213). -/
  | cbBit3C
  /-- `BIT 3,D`, 0xCB 0x5A (R213). -/
  | cbBit3D
  /-- `BIT 3,E`, 0xCB 0x5B (R213). -/
  | cbBit3E
  /-- `BIT 3,H`, 0xCB 0x5C (R213). -/
  | cbBit3H
  /-- `BIT 3,L`, 0xCB 0x5D (R213). -/
  | cbBit3L
  /-- `BIT 3,(HL)`, 0xCB 0x5E (R213). -/
  | cbBit3MemHl
  /-- `BIT 3,A`, 0xCB 0x5F (R213). -/
  | cbBit3A
  /-- `BIT 4,B`, 0xCB 0x60 (R213). -/
  | cbBit4B
  /-- `BIT 4,C`, 0xCB 0x61 (R213). -/
  | cbBit4C
  /-- `BIT 4,D`, 0xCB 0x62 (R213). -/
  | cbBit4D
  /-- `BIT 4,E`, 0xCB 0x63 (R213). -/
  | cbBit4E
  /-- `BIT 4,H`, 0xCB 0x64 (R213). -/
  | cbBit4H
  /-- `BIT 4,L`, 0xCB 0x65 (R213). -/
  | cbBit4L
  /-- `BIT 4,(HL)`, 0xCB 0x66 (R213). -/
  | cbBit4MemHl
  /-- `BIT 4,A`, 0xCB 0x67 (R213). -/
  | cbBit4A
  /-- `BIT 5,B`, 0xCB 0x68 (R213). -/
  | cbBit5B
  /-- `BIT 5,C`, 0xCB 0x69 (R213). -/
  | cbBit5C
  /-- `BIT 5,D`, 0xCB 0x6A (R213). -/
  | cbBit5D
  /-- `BIT 5,E`, 0xCB 0x6B (R213). -/
  | cbBit5E
  /-- `BIT 5,H`, 0xCB 0x6C (R213). -/
  | cbBit5H
  /-- `BIT 5,L`, 0xCB 0x6D (R213). -/
  | cbBit5L
  /-- `BIT 5,(HL)`, 0xCB 0x6E (R213). -/
  | cbBit5MemHl
  /-- `BIT 5,A`, 0xCB 0x6F (R213). -/
  | cbBit5A
  /-- `BIT 6,B`, 0xCB 0x70 (R213). -/
  | cbBit6B
  /-- `BIT 6,C`, 0xCB 0x71 (R213). -/
  | cbBit6C
  /-- `BIT 6,D`, 0xCB 0x72 (R213). -/
  | cbBit6D
  /-- `BIT 6,E`, 0xCB 0x73 (R213). -/
  | cbBit6E
  /-- `BIT 6,H`, 0xCB 0x74 (R213). -/
  | cbBit6H
  /-- `BIT 6,L`, 0xCB 0x75 (R213). -/
  | cbBit6L
  /-- `BIT 6,(HL)`, 0xCB 0x76 (R213). -/
  | cbBit6MemHl
  /-- `BIT 6,A`, 0xCB 0x77 (R213). -/
  | cbBit6A
  /-- `BIT 7,B`, 0xCB 0x78 (R213). -/
  | cbBit7B
  /-- `BIT 7,C`, 0xCB 0x79 (R213). -/
  | cbBit7C
  /-- `BIT 7,D`, 0xCB 0x7A (R213). -/
  | cbBit7D
  /-- `BIT 7,E`, 0xCB 0x7B (R213). -/
  | cbBit7E
  /-- `BIT 7,H`, 0xCB 0x7C (R213). -/
  | cbBit7H
  /-- `BIT 7,L`, 0xCB 0x7D (R213). -/
  | cbBit7L
  /-- `BIT 7,(HL)`, 0xCB 0x7E (R213). -/
  | cbBit7MemHl
  /-- `BIT 7,A`, 0xCB 0x7F (R213). -/
  | cbBit7A
  /-- `RES 0,B`, 0xCB 0x80 (R214). -/
  | cbRes0B
  /-- `RES 0,C`, 0xCB 0x81 (R214). -/
  | cbRes0C
  /-- `RES 0,D`, 0xCB 0x82 (R214). -/
  | cbRes0D
  /-- `RES 0,E`, 0xCB 0x83 (R214). -/
  | cbRes0E
  /-- `RES 0,H`, 0xCB 0x84 (R214). -/
  | cbRes0H
  /-- `RES 0,L`, 0xCB 0x85 (R214). -/
  | cbRes0L
  /-- `RES 0,(HL)`, 0xCB 0x86 (R214). -/
  | cbRes0MemHl
  /-- `RES 0,A`, 0xCB 0x87 (R214). -/
  | cbRes0A
  /-- `RES 1,B`, 0xCB 0x88 (R214). -/
  | cbRes1B
  /-- `RES 1,C`, 0xCB 0x89 (R214). -/
  | cbRes1C
  /-- `RES 1,D`, 0xCB 0x8A (R214). -/
  | cbRes1D
  /-- `RES 1,E`, 0xCB 0x8B (R214). -/
  | cbRes1E
  /-- `RES 1,H`, 0xCB 0x8C (R214). -/
  | cbRes1H
  /-- `RES 1,L`, 0xCB 0x8D (R214). -/
  | cbRes1L
  /-- `RES 1,(HL)`, 0xCB 0x8E (R214). -/
  | cbRes1MemHl
  /-- `RES 1,A`, 0xCB 0x8F (R214). -/
  | cbRes1A
  /-- `RES 2,B`, 0xCB 0x90 (R214). -/
  | cbRes2B
  /-- `RES 2,C`, 0xCB 0x91 (R214). -/
  | cbRes2C
  /-- `RES 2,D`, 0xCB 0x92 (R214). -/
  | cbRes2D
  /-- `RES 2,E`, 0xCB 0x93 (R214). -/
  | cbRes2E
  /-- `RES 2,H`, 0xCB 0x94 (R214). -/
  | cbRes2H
  /-- `RES 2,L`, 0xCB 0x95 (R214). -/
  | cbRes2L
  /-- `RES 2,(HL)`, 0xCB 0x96 (R214). -/
  | cbRes2MemHl
  /-- `RES 2,A`, 0xCB 0x97 (R214). -/
  | cbRes2A
  /-- `RES 3,B`, 0xCB 0x98 (R214). -/
  | cbRes3B
  /-- `RES 3,C`, 0xCB 0x99 (R214). -/
  | cbRes3C
  /-- `RES 3,D`, 0xCB 0x9A (R214). -/
  | cbRes3D
  /-- `RES 3,E`, 0xCB 0x9B (R214). -/
  | cbRes3E
  /-- `RES 3,H`, 0xCB 0x9C (R214). -/
  | cbRes3H
  /-- `RES 3,L`, 0xCB 0x9D (R214). -/
  | cbRes3L
  /-- `RES 3,(HL)`, 0xCB 0x9E (R214). -/
  | cbRes3MemHl
  /-- `RES 3,A`, 0xCB 0x9F (R214). -/
  | cbRes3A
  /-- `RES 4,B`, 0xCB 0xA0 (R214). -/
  | cbRes4B
  /-- `RES 4,C`, 0xCB 0xA1 (R214). -/
  | cbRes4C
  /-- `RES 4,D`, 0xCB 0xA2 (R214). -/
  | cbRes4D
  /-- `RES 4,E`, 0xCB 0xA3 (R214). -/
  | cbRes4E
  /-- `RES 4,H`, 0xCB 0xA4 (R214). -/
  | cbRes4H
  /-- `RES 4,L`, 0xCB 0xA5 (R214). -/
  | cbRes4L
  /-- `RES 4,(HL)`, 0xCB 0xA6 (R214). -/
  | cbRes4MemHl
  /-- `RES 4,A`, 0xCB 0xA7 (R214). -/
  | cbRes4A
  /-- `RES 5,B`, 0xCB 0xA8 (R214). -/
  | cbRes5B
  /-- `RES 5,C`, 0xCB 0xA9 (R214). -/
  | cbRes5C
  /-- `RES 5,D`, 0xCB 0xAA (R214). -/
  | cbRes5D
  /-- `RES 5,E`, 0xCB 0xAB (R214). -/
  | cbRes5E
  /-- `RES 5,H`, 0xCB 0xAC (R214). -/
  | cbRes5H
  /-- `RES 5,L`, 0xCB 0xAD (R214). -/
  | cbRes5L
  /-- `RES 5,(HL)`, 0xCB 0xAE (R214). -/
  | cbRes5MemHl
  /-- `RES 5,A`, 0xCB 0xAF (R214). -/
  | cbRes5A
  /-- `RES 6,B`, 0xCB 0xB0 (R214). -/
  | cbRes6B
  /-- `RES 6,C`, 0xCB 0xB1 (R214). -/
  | cbRes6C
  /-- `RES 6,D`, 0xCB 0xB2 (R214). -/
  | cbRes6D
  /-- `RES 6,E`, 0xCB 0xB3 (R214). -/
  | cbRes6E
  /-- `RES 6,H`, 0xCB 0xB4 (R214). -/
  | cbRes6H
  /-- `RES 6,L`, 0xCB 0xB5 (R214). -/
  | cbRes6L
  /-- `RES 6,(HL)`, 0xCB 0xB6 (R214). -/
  | cbRes6MemHl
  /-- `RES 6,A`, 0xCB 0xB7 (R214). -/
  | cbRes6A
  /-- `RES 7,B`, 0xCB 0xB8 (R214). -/
  | cbRes7B
  /-- `RES 7,C`, 0xCB 0xB9 (R214). -/
  | cbRes7C
  /-- `RES 7,D`, 0xCB 0xBA (R214). -/
  | cbRes7D
  /-- `RES 7,E`, 0xCB 0xBB (R214). -/
  | cbRes7E
  /-- `RES 7,H`, 0xCB 0xBC (R214). -/
  | cbRes7H
  /-- `RES 7,L`, 0xCB 0xBD (R214). -/
  | cbRes7L
  /-- `RES 7,(HL)`, 0xCB 0xBE (R214). -/
  | cbRes7MemHl
  /-- `RES 7,A`, 0xCB 0xBF (R214). -/
  | cbRes7A
  /-- `SET 0,B`, 0xCB 0xC0 (R215). -/
  | cbSet0B
  /-- `SET 0,C`, 0xCB 0xC1 (R215). -/
  | cbSet0C
  /-- `SET 0,D`, 0xCB 0xC2 (R215). -/
  | cbSet0D
  /-- `SET 0,E`, 0xCB 0xC3 (R215). -/
  | cbSet0E
  /-- `SET 0,H`, 0xCB 0xC4 (R215). -/
  | cbSet0H
  /-- `SET 0,L`, 0xCB 0xC5 (R215). -/
  | cbSet0L
  /-- `SET 0,(HL)`, 0xCB 0xC6 (R215). -/
  | cbSet0MemHl
  /-- `SET 0,A`, 0xCB 0xC7 (R215). -/
  | cbSet0A
  /-- `SET 1,B`, 0xCB 0xC8 (R215). -/
  | cbSet1B
  /-- `SET 1,C`, 0xCB 0xC9 (R215). -/
  | cbSet1C
  /-- `SET 1,D`, 0xCB 0xCA (R215). -/
  | cbSet1D
  /-- `SET 1,E`, 0xCB 0xCB (R215). -/
  | cbSet1E
  /-- `SET 1,H`, 0xCB 0xCC (R215). -/
  | cbSet1H
  /-- `SET 1,L`, 0xCB 0xCD (R215). -/
  | cbSet1L
  /-- `SET 1,(HL)`, 0xCB 0xCE (R215). -/
  | cbSet1MemHl
  /-- `SET 1,A`, 0xCB 0xCF (R215). -/
  | cbSet1A
  /-- `SET 2,B`, 0xCB 0xD0 (R215). -/
  | cbSet2B
  /-- `SET 2,C`, 0xCB 0xD1 (R215). -/
  | cbSet2C
  /-- `SET 2,D`, 0xCB 0xD2 (R215). -/
  | cbSet2D
  /-- `SET 2,E`, 0xCB 0xD3 (R215). -/
  | cbSet2E
  /-- `SET 2,H`, 0xCB 0xD4 (R215). -/
  | cbSet2H
  /-- `SET 2,L`, 0xCB 0xD5 (R215). -/
  | cbSet2L
  /-- `SET 2,(HL)`, 0xCB 0xD6 (R215). -/
  | cbSet2MemHl
  /-- `SET 2,A`, 0xCB 0xD7 (R215). -/
  | cbSet2A
  /-- `SET 3,B`, 0xCB 0xD8 (R215). -/
  | cbSet3B
  /-- `SET 3,C`, 0xCB 0xD9 (R215). -/
  | cbSet3C
  /-- `SET 3,D`, 0xCB 0xDA (R215). -/
  | cbSet3D
  /-- `SET 3,E`, 0xCB 0xDB (R215). -/
  | cbSet3E
  /-- `SET 3,H`, 0xCB 0xDC (R215). -/
  | cbSet3H
  /-- `SET 3,L`, 0xCB 0xDD (R215). -/
  | cbSet3L
  /-- `SET 3,(HL)`, 0xCB 0xDE (R215). -/
  | cbSet3MemHl
  /-- `SET 3,A`, 0xCB 0xDF (R215). -/
  | cbSet3A
  /-- `SET 4,B`, 0xCB 0xE0 (R215). -/
  | cbSet4B
  /-- `SET 4,C`, 0xCB 0xE1 (R215). -/
  | cbSet4C
  /-- `SET 4,D`, 0xCB 0xE2 (R215). -/
  | cbSet4D
  /-- `SET 4,E`, 0xCB 0xE3 (R215). -/
  | cbSet4E
  /-- `SET 4,H`, 0xCB 0xE4 (R215). -/
  | cbSet4H
  /-- `SET 4,L`, 0xCB 0xE5 (R215). -/
  | cbSet4L
  /-- `SET 4,(HL)`, 0xCB 0xE6 (R215). -/
  | cbSet4MemHl
  /-- `SET 4,A`, 0xCB 0xE7 (R215). -/
  | cbSet4A
  /-- `SET 5,B`, 0xCB 0xE8 (R215). -/
  | cbSet5B
  /-- `SET 5,C`, 0xCB 0xE9 (R215). -/
  | cbSet5C
  /-- `SET 5,D`, 0xCB 0xEA (R215). -/
  | cbSet5D
  /-- `SET 5,E`, 0xCB 0xEB (R215). -/
  | cbSet5E
  /-- `SET 5,H`, 0xCB 0xEC (R215). -/
  | cbSet5H
  /-- `SET 5,L`, 0xCB 0xED (R215). -/
  | cbSet5L
  /-- `SET 5,(HL)`, 0xCB 0xEE (R215). -/
  | cbSet5MemHl
  /-- `SET 5,A`, 0xCB 0xEF (R215). -/
  | cbSet5A
  /-- `SET 6,B`, 0xCB 0xF0 (R215). -/
  | cbSet6B
  /-- `SET 6,C`, 0xCB 0xF1 (R215). -/
  | cbSet6C
  /-- `SET 6,D`, 0xCB 0xF2 (R215). -/
  | cbSet6D
  /-- `SET 6,E`, 0xCB 0xF3 (R215). -/
  | cbSet6E
  /-- `SET 6,H`, 0xCB 0xF4 (R215). -/
  | cbSet6H
  /-- `SET 6,L`, 0xCB 0xF5 (R215). -/
  | cbSet6L
  /-- `SET 6,(HL)`, 0xCB 0xF6 (R215). -/
  | cbSet6MemHl
  /-- `SET 6,A`, 0xCB 0xF7 (R215). -/
  | cbSet6A
  /-- `SET 7,B`, 0xCB 0xF8 (R215). -/
  | cbSet7B
  /-- `SET 7,C`, 0xCB 0xF9 (R215). -/
  | cbSet7C
  /-- `SET 7,D`, 0xCB 0xFA (R215). -/
  | cbSet7D
  /-- `SET 7,E`, 0xCB 0xFB (R215). -/
  | cbSet7E
  /-- `SET 7,H`, 0xCB 0xFC (R215). -/
  | cbSet7H
  /-- `SET 7,L`, 0xCB 0xFD (R215). -/
  | cbSet7L
  /-- `SET 7,(HL)`, 0xCB 0xFE (R215). -/
  | cbSet7MemHl
  /-- `SET 7,A`, 0xCB 0xFF (R215). -/
  | cbSet7A
  deriving DecidableEq, Repr

end Sys2Proof
end

