-- ==== Sys2Proof/Form.lean ====
section
/-! DEFINITION. The fields of an instruction (R82): the operand tables R85 to R87, and an instruction as an
operation with its operands (`Instr.form`, in `Decode.lean`, reads them off each row of the opcode table). -/

namespace Sys2Proof

/-- The seven 8-bit registers an instruction can name (R23). F is never named. -/
inductive Reg8 where
  | b | c | d | e | h | l | a
  deriving DecidableEq, Repr

/-- The 8-bit operand table (R85): a register, or the byte addressed by HL. -/
inductive Opnd8 where
  | reg (r : Reg8)
  | memHl
  deriving DecidableEq, Repr

/-- `R16` (R86): the pairs of LD rr,d16, INC rr, DEC rr and ADD HL,rr. -/
inductive Pair where
  | bc | de | hl | sp
  deriving DecidableEq, Repr

/-- `R16S` (R86): the pairs of PUSH and POP. -/
inductive StackPair where
  | bc | de | hl | af
  deriving DecidableEq, Repr

/-- The indirect operands of LD (..),A and LD A,(..) (R86). -/
inductive Indirect where
  | bc | de | hlInc | hlDec
  deriving DecidableEq, Repr

/-- The condition codes (R87). -/
inductive Cond where
  | nz | z | nc | c
  deriving DecidableEq, Repr

/-- The eight accumulator operations, in the order of field `y` (R160). -/
inductive AluOp where
  | add | adc | sub | sbc | and | xor | or | cp
  deriving DecidableEq, Repr

/-- The eight rotates and shifts of the secondary table, in the order of field `y` (R94). -/
inductive RotOp where
  | rlc | rrc | rl | rr | sla | sra | swap | srl
  deriving DecidableEq, Repr

/-- An instruction as operation and operands, one constructor per line of the map by fields (R91, R94). -/
inductive Form where
  | nop
  | ldMemSp (a : Word)
  | stop (n : Byte)
  | jr (e : Byte)
  | jrCond (cc : Cond) (e : Byte)
  | ldPairImm (p : Pair) (n : Word)
  | addHl (p : Pair)
  | ldIndA (i : Indirect)
  | ldAInd (i : Indirect)
  | incPair (p : Pair)
  | decPair (p : Pair)
  | inc8 (o : Opnd8)
  | dec8 (o : Opnd8)
  | ld8Imm (dst : Opnd8) (n : Byte)
  | rlca
  | rrca
  | rla
  | rra
  | daa
  | cpl
  | scf
  | ccf
  | halt
  | ldRegReg (dst src : Reg8)
  | ldRegMem (dst : Reg8)
  | ldMemReg (src : Reg8)
  | alu (op : AluOp) (o : Opnd8)
  | aluImm (op : AluOp) (n : Byte)
  | retCond (cc : Cond)
  | ret
  | reti
  | ldhMemA (n : Byte)
  | ldhAMem (n : Byte)
  | ldHighCA
  | ldAHighC
  | addSp (e : Byte)
  | ldHlSp (e : Byte)
  | pop (p : StackPair)
  | push (p : StackPair)
  | jpHl
  | ldSpHl
  | jpCond (cc : Cond) (a : Word)
  | jp (a : Word)
  | ldMemA (a : Word)
  | ldAMem (a : Word)
  | di
  | ei
  | callCond (cc : Cond) (a : Word)
  | call (a : Word)
  | rst (t : Fin 8)
  | illegal (op : Byte)
  | escapeCb (o : Byte)
  | rot (op : RotOp) (o : Opnd8)
  | bit (n : Fin 8) (o : Opnd8)
  | res (n : Fin 8) (o : Opnd8)
  | set (n : Fin 8) (o : Opnd8)
  deriving DecidableEq, Repr

end Sys2Proof
end

