-- ==== Sys2Proof/Decode.lean ====
section
/-! DEFINITION. Bytes to instructions: the length table (R83), the two opcode grids (R91, R94), the decoder and,
after it, the encoder, which is written from the map by fields instead. -/

namespace Sys2Proof

/-! ### Byte order (R21, R63, R90) -/

/-- Bits 7:0. -/
def loByte (w : Word) : Byte := w.extractLsb' 0 8

/-- Bits 15:8. -/
def hiByte (w : Word) : Byte := w.extractLsb' 8 8

/-- `hi ++ lo` (R8, R58, R90). -/
def wordOf (hi lo : Byte) : Word := hi ++ lo

/-! ### Lengths -/

/-- The length grid (R83, R84), row by row. An illegal byte has no length; it stands as 1, its format's (R81),
since no byte after it is fetched (R266). -/
def instrLengthTable : List Nat :=
  [1, 3, 1, 1, 1, 1, 2, 1, 3, 1, 1, 1, 1, 1, 2, 1] ++
  [2, 3, 1, 1, 1, 1, 2, 1, 2, 1, 1, 1, 1, 1, 2, 1] ++
  [2, 3, 1, 1, 1, 1, 2, 1, 2, 1, 1, 1, 1, 1, 2, 1] ++
  [2, 3, 1, 1, 1, 1, 2, 1, 2, 1, 1, 1, 1, 1, 2, 1] ++
  [1, 1, 1, 1, 1, 1, 1, 1, 1, 1, 1, 1, 1, 1, 1, 1] ++
  [1, 1, 1, 1, 1, 1, 1, 1, 1, 1, 1, 1, 1, 1, 1, 1] ++
  [1, 1, 1, 1, 1, 1, 1, 1, 1, 1, 1, 1, 1, 1, 1, 1] ++
  [1, 1, 1, 1, 1, 1, 1, 1, 1, 1, 1, 1, 1, 1, 1, 1] ++
  [1, 1, 1, 1, 1, 1, 1, 1, 1, 1, 1, 1, 1, 1, 1, 1] ++
  [1, 1, 1, 1, 1, 1, 1, 1, 1, 1, 1, 1, 1, 1, 1, 1] ++
  [1, 1, 1, 1, 1, 1, 1, 1, 1, 1, 1, 1, 1, 1, 1, 1] ++
  [1, 1, 1, 1, 1, 1, 1, 1, 1, 1, 1, 1, 1, 1, 1, 1] ++
  [1, 1, 3, 3, 3, 1, 2, 1, 1, 1, 3, 2, 3, 3, 2, 1] ++
  [1, 1, 3, 1, 3, 1, 2, 1, 1, 1, 3, 1, 3, 1, 2, 1] ++
  [2, 1, 1, 1, 1, 1, 2, 1, 2, 1, 3, 1, 1, 1, 2, 1] ++
  [2, 1, 1, 1, 1, 1, 2, 1, 2, 1, 3, 1, 1, 1, 2, 1]

/-- The length in bytes of the instruction whose first byte is `op` (R80, R83). -/
def instrLength (op : Byte) : Nat := instrLengthTable.getD op.toNat 1

/-! ### The secondary table (R94), row by row -/

/-- CB opcodes 0x00 to 0x0F (R94), by low nibble. -/
def cbRow0 : Nat → Instr
  | 0 => .cbRlcB
  | 1 => .cbRlcC
  | 2 => .cbRlcD
  | 3 => .cbRlcE
  | 4 => .cbRlcH
  | 5 => .cbRlcL
  | 6 => .cbRlcMemHl
  | 7 => .cbRlcA
  | 8 => .cbRrcB
  | 9 => .cbRrcC
  | 10 => .cbRrcD
  | 11 => .cbRrcE
  | 12 => .cbRrcH
  | 13 => .cbRrcL
  | 14 => .cbRrcMemHl
  | _ => .cbRrcA

/-- CB opcodes 0x10 to 0x1F (R94), by low nibble. -/
def cbRow1 : Nat → Instr
  | 0 => .cbRlB
  | 1 => .cbRlC
  | 2 => .cbRlD
  | 3 => .cbRlE
  | 4 => .cbRlH
  | 5 => .cbRlL
  | 6 => .cbRlMemHl
  | 7 => .cbRlA
  | 8 => .cbRrB
  | 9 => .cbRrC
  | 10 => .cbRrD
  | 11 => .cbRrE
  | 12 => .cbRrH
  | 13 => .cbRrL
  | 14 => .cbRrMemHl
  | _ => .cbRrA

/-- CB opcodes 0x20 to 0x2F (R94), by low nibble. -/
def cbRow2 : Nat → Instr
  | 0 => .cbSlaB
  | 1 => .cbSlaC
  | 2 => .cbSlaD
  | 3 => .cbSlaE
  | 4 => .cbSlaH
  | 5 => .cbSlaL
  | 6 => .cbSlaMemHl
  | 7 => .cbSlaA
  | 8 => .cbSraB
  | 9 => .cbSraC
  | 10 => .cbSraD
  | 11 => .cbSraE
  | 12 => .cbSraH
  | 13 => .cbSraL
  | 14 => .cbSraMemHl
  | _ => .cbSraA

/-- CB opcodes 0x30 to 0x3F (R94), by low nibble. -/
def cbRow3 : Nat → Instr
  | 0 => .cbSwapB
  | 1 => .cbSwapC
  | 2 => .cbSwapD
  | 3 => .cbSwapE
  | 4 => .cbSwapH
  | 5 => .cbSwapL
  | 6 => .cbSwapMemHl
  | 7 => .cbSwapA
  | 8 => .cbSrlB
  | 9 => .cbSrlC
  | 10 => .cbSrlD
  | 11 => .cbSrlE
  | 12 => .cbSrlH
  | 13 => .cbSrlL
  | 14 => .cbSrlMemHl
  | _ => .cbSrlA

/-- CB opcodes 0x40 to 0x4F (R94), by low nibble. -/
def cbRow4 : Nat → Instr
  | 0 => .cbBit0B
  | 1 => .cbBit0C
  | 2 => .cbBit0D
  | 3 => .cbBit0E
  | 4 => .cbBit0H
  | 5 => .cbBit0L
  | 6 => .cbBit0MemHl
  | 7 => .cbBit0A
  | 8 => .cbBit1B
  | 9 => .cbBit1C
  | 10 => .cbBit1D
  | 11 => .cbBit1E
  | 12 => .cbBit1H
  | 13 => .cbBit1L
  | 14 => .cbBit1MemHl
  | _ => .cbBit1A

/-- CB opcodes 0x50 to 0x5F (R94), by low nibble. -/
def cbRow5 : Nat → Instr
  | 0 => .cbBit2B
  | 1 => .cbBit2C
  | 2 => .cbBit2D
  | 3 => .cbBit2E
  | 4 => .cbBit2H
  | 5 => .cbBit2L
  | 6 => .cbBit2MemHl
  | 7 => .cbBit2A
  | 8 => .cbBit3B
  | 9 => .cbBit3C
  | 10 => .cbBit3D
  | 11 => .cbBit3E
  | 12 => .cbBit3H
  | 13 => .cbBit3L
  | 14 => .cbBit3MemHl
  | _ => .cbBit3A

/-- CB opcodes 0x60 to 0x6F (R94), by low nibble. -/
def cbRow6 : Nat → Instr
  | 0 => .cbBit4B
  | 1 => .cbBit4C
  | 2 => .cbBit4D
  | 3 => .cbBit4E
  | 4 => .cbBit4H
  | 5 => .cbBit4L
  | 6 => .cbBit4MemHl
  | 7 => .cbBit4A
  | 8 => .cbBit5B
  | 9 => .cbBit5C
  | 10 => .cbBit5D
  | 11 => .cbBit5E
  | 12 => .cbBit5H
  | 13 => .cbBit5L
  | 14 => .cbBit5MemHl
  | _ => .cbBit5A

/-- CB opcodes 0x70 to 0x7F (R94), by low nibble. -/
def cbRow7 : Nat → Instr
  | 0 => .cbBit6B
  | 1 => .cbBit6C
  | 2 => .cbBit6D
  | 3 => .cbBit6E
  | 4 => .cbBit6H
  | 5 => .cbBit6L
  | 6 => .cbBit6MemHl
  | 7 => .cbBit6A
  | 8 => .cbBit7B
  | 9 => .cbBit7C
  | 10 => .cbBit7D
  | 11 => .cbBit7E
  | 12 => .cbBit7H
  | 13 => .cbBit7L
  | 14 => .cbBit7MemHl
  | _ => .cbBit7A

/-- CB opcodes 0x80 to 0x8F (R94), by low nibble. -/
def cbRow8 : Nat → Instr
  | 0 => .cbRes0B
  | 1 => .cbRes0C
  | 2 => .cbRes0D
  | 3 => .cbRes0E
  | 4 => .cbRes0H
  | 5 => .cbRes0L
  | 6 => .cbRes0MemHl
  | 7 => .cbRes0A
  | 8 => .cbRes1B
  | 9 => .cbRes1C
  | 10 => .cbRes1D
  | 11 => .cbRes1E
  | 12 => .cbRes1H
  | 13 => .cbRes1L
  | 14 => .cbRes1MemHl
  | _ => .cbRes1A

/-- CB opcodes 0x90 to 0x9F (R94), by low nibble. -/
def cbRow9 : Nat → Instr
  | 0 => .cbRes2B
  | 1 => .cbRes2C
  | 2 => .cbRes2D
  | 3 => .cbRes2E
  | 4 => .cbRes2H
  | 5 => .cbRes2L
  | 6 => .cbRes2MemHl
  | 7 => .cbRes2A
  | 8 => .cbRes3B
  | 9 => .cbRes3C
  | 10 => .cbRes3D
  | 11 => .cbRes3E
  | 12 => .cbRes3H
  | 13 => .cbRes3L
  | 14 => .cbRes3MemHl
  | _ => .cbRes3A

/-- CB opcodes 0xA0 to 0xAF (R94), by low nibble. -/
def cbRowA : Nat → Instr
  | 0 => .cbRes4B
  | 1 => .cbRes4C
  | 2 => .cbRes4D
  | 3 => .cbRes4E
  | 4 => .cbRes4H
  | 5 => .cbRes4L
  | 6 => .cbRes4MemHl
  | 7 => .cbRes4A
  | 8 => .cbRes5B
  | 9 => .cbRes5C
  | 10 => .cbRes5D
  | 11 => .cbRes5E
  | 12 => .cbRes5H
  | 13 => .cbRes5L
  | 14 => .cbRes5MemHl
  | _ => .cbRes5A

/-- CB opcodes 0xB0 to 0xBF (R94), by low nibble. -/
def cbRowB : Nat → Instr
  | 0 => .cbRes6B
  | 1 => .cbRes6C
  | 2 => .cbRes6D
  | 3 => .cbRes6E
  | 4 => .cbRes6H
  | 5 => .cbRes6L
  | 6 => .cbRes6MemHl
  | 7 => .cbRes6A
  | 8 => .cbRes7B
  | 9 => .cbRes7C
  | 10 => .cbRes7D
  | 11 => .cbRes7E
  | 12 => .cbRes7H
  | 13 => .cbRes7L
  | 14 => .cbRes7MemHl
  | _ => .cbRes7A

/-- CB opcodes 0xC0 to 0xCF (R94), by low nibble. -/
def cbRowC : Nat → Instr
  | 0 => .cbSet0B
  | 1 => .cbSet0C
  | 2 => .cbSet0D
  | 3 => .cbSet0E
  | 4 => .cbSet0H
  | 5 => .cbSet0L
  | 6 => .cbSet0MemHl
  | 7 => .cbSet0A
  | 8 => .cbSet1B
  | 9 => .cbSet1C
  | 10 => .cbSet1D
  | 11 => .cbSet1E
  | 12 => .cbSet1H
  | 13 => .cbSet1L
  | 14 => .cbSet1MemHl
  | _ => .cbSet1A

/-- CB opcodes 0xD0 to 0xDF (R94), by low nibble. -/
def cbRowD : Nat → Instr
  | 0 => .cbSet2B
  | 1 => .cbSet2C
  | 2 => .cbSet2D
  | 3 => .cbSet2E
  | 4 => .cbSet2H
  | 5 => .cbSet2L
  | 6 => .cbSet2MemHl
  | 7 => .cbSet2A
  | 8 => .cbSet3B
  | 9 => .cbSet3C
  | 10 => .cbSet3D
  | 11 => .cbSet3E
  | 12 => .cbSet3H
  | 13 => .cbSet3L
  | 14 => .cbSet3MemHl
  | _ => .cbSet3A

/-- CB opcodes 0xE0 to 0xEF (R94), by low nibble. -/
def cbRowE : Nat → Instr
  | 0 => .cbSet4B
  | 1 => .cbSet4C
  | 2 => .cbSet4D
  | 3 => .cbSet4E
  | 4 => .cbSet4H
  | 5 => .cbSet4L
  | 6 => .cbSet4MemHl
  | 7 => .cbSet4A
  | 8 => .cbSet5B
  | 9 => .cbSet5C
  | 10 => .cbSet5D
  | 11 => .cbSet5E
  | 12 => .cbSet5H
  | 13 => .cbSet5L
  | 14 => .cbSet5MemHl
  | _ => .cbSet5A

/-- CB opcodes 0xF0 to 0xFF (R94), by low nibble. -/
def cbRowF : Nat → Instr
  | 0 => .cbSet6B
  | 1 => .cbSet6C
  | 2 => .cbSet6D
  | 3 => .cbSet6E
  | 4 => .cbSet6H
  | 5 => .cbSet6L
  | 6 => .cbSet6MemHl
  | 7 => .cbSet6A
  | 8 => .cbSet7B
  | 9 => .cbSet7C
  | 10 => .cbSet7D
  | 11 => .cbSet7E
  | 12 => .cbSet7H
  | 13 => .cbSet7L
  | 14 => .cbSet7MemHl
  | _ => .cbSet7A

/-- The secondary dispatch (R94) on the byte after 0xCB. -/
def decodeCb (o : Byte) : Instr :=
  match o.toNat / 16 with
  | 0 => cbRow0 (o.toNat % 16)
  | 1 => cbRow1 (o.toNat % 16)
  | 2 => cbRow2 (o.toNat % 16)
  | 3 => cbRow3 (o.toNat % 16)
  | 4 => cbRow4 (o.toNat % 16)
  | 5 => cbRow5 (o.toNat % 16)
  | 6 => cbRow6 (o.toNat % 16)
  | 7 => cbRow7 (o.toNat % 16)
  | 8 => cbRow8 (o.toNat % 16)
  | 9 => cbRow9 (o.toNat % 16)
  | 10 => cbRowA (o.toNat % 16)
  | 11 => cbRowB (o.toNat % 16)
  | 12 => cbRowC (o.toNat % 16)
  | 13 => cbRowD (o.toNat % 16)
  | 14 => cbRowE (o.toNat % 16)
  | _ => cbRowF (o.toNat % 16)

/-! ### The primary table (R91), row by row; `b1`, `b2` are the bytes after the opcode (R89, R90) -/

/-- Opcodes 0x00 to 0x0F (R91), by low nibble. -/
def baseRow0 (b1 b2 : Byte) : Nat → Instr
  | 0 => .nop
  | 1 => .ldBcD16 (wordOf b2 b1)
  | 2 => .ldMemBcA
  | 3 => .incBc
  | 4 => .incB
  | 5 => .decB
  | 6 => .ldBD8 b1
  | 7 => .rlca
  | 8 => .ldMemA16Sp (wordOf b2 b1)
  | 9 => .addHlBc
  | 10 => .ldAMemBc
  | 11 => .decBc
  | 12 => .incC
  | 13 => .decC
  | 14 => .ldCD8 b1
  | _ => .rrca

/-- Opcodes 0x10 to 0x1F (R91), by low nibble. -/
def baseRow1 (b1 b2 : Byte) : Nat → Instr
  | 0 => .stop b1
  | 1 => .ldDeD16 (wordOf b2 b1)
  | 2 => .ldMemDeA
  | 3 => .incDe
  | 4 => .incD
  | 5 => .decD
  | 6 => .ldDD8 b1
  | 7 => .rla
  | 8 => .jrE8 b1
  | 9 => .addHlDe
  | 10 => .ldAMemDe
  | 11 => .decDe
  | 12 => .incE
  | 13 => .decE
  | 14 => .ldED8 b1
  | _ => .rra

/-- Opcodes 0x20 to 0x2F (R91), by low nibble. -/
def baseRow2 (b1 b2 : Byte) : Nat → Instr
  | 0 => .jrNzE8 b1
  | 1 => .ldHlD16 (wordOf b2 b1)
  | 2 => .ldMemHlIncA
  | 3 => .incHl
  | 4 => .incH
  | 5 => .decH
  | 6 => .ldHD8 b1
  | 7 => .daa
  | 8 => .jrZE8 b1
  | 9 => .addHlHl
  | 10 => .ldAMemHlInc
  | 11 => .decHl
  | 12 => .incL
  | 13 => .decL
  | 14 => .ldLD8 b1
  | _ => .cpl

/-- Opcodes 0x30 to 0x3F (R91), by low nibble. -/
def baseRow3 (b1 b2 : Byte) : Nat → Instr
  | 0 => .jrNcE8 b1
  | 1 => .ldSpD16 (wordOf b2 b1)
  | 2 => .ldMemHlDecA
  | 3 => .incSp
  | 4 => .incMemHl
  | 5 => .decMemHl
  | 6 => .ldMemHlD8 b1
  | 7 => .scf
  | 8 => .jrCE8 b1
  | 9 => .addHlSp
  | 10 => .ldAMemHlDec
  | 11 => .decSp
  | 12 => .incA
  | 13 => .decA
  | 14 => .ldAD8 b1
  | _ => .ccf

/-- Opcodes 0x40 to 0x4F (R91), by low nibble. -/
def baseRow4 (_b1 _b2 : Byte) : Nat → Instr
  | 0 => .ldBB
  | 1 => .ldBC
  | 2 => .ldBD
  | 3 => .ldBE
  | 4 => .ldBH
  | 5 => .ldBL
  | 6 => .ldBMemHl
  | 7 => .ldBA
  | 8 => .ldCB
  | 9 => .ldCC
  | 10 => .ldCD
  | 11 => .ldCE
  | 12 => .ldCH
  | 13 => .ldCL
  | 14 => .ldCMemHl
  | _ => .ldCA

/-- Opcodes 0x50 to 0x5F (R91), by low nibble. -/
def baseRow5 (_b1 _b2 : Byte) : Nat → Instr
  | 0 => .ldDB
  | 1 => .ldDC
  | 2 => .ldDD
  | 3 => .ldDE
  | 4 => .ldDH
  | 5 => .ldDL
  | 6 => .ldDMemHl
  | 7 => .ldDA
  | 8 => .ldEB
  | 9 => .ldEC
  | 10 => .ldED
  | 11 => .ldEE
  | 12 => .ldEH
  | 13 => .ldEL
  | 14 => .ldEMemHl
  | _ => .ldEA

/-- Opcodes 0x60 to 0x6F (R91), by low nibble. -/
def baseRow6 (_b1 _b2 : Byte) : Nat → Instr
  | 0 => .ldHB
  | 1 => .ldHC
  | 2 => .ldHD
  | 3 => .ldHE
  | 4 => .ldHH
  | 5 => .ldHL
  | 6 => .ldHMemHl
  | 7 => .ldHA
  | 8 => .ldLB
  | 9 => .ldLC
  | 10 => .ldLD
  | 11 => .ldLE
  | 12 => .ldLH
  | 13 => .ldLL
  | 14 => .ldLMemHl
  | _ => .ldLA

/-- Opcodes 0x70 to 0x7F (R91), by low nibble. -/
def baseRow7 (_b1 _b2 : Byte) : Nat → Instr
  | 0 => .ldMemHlB
  | 1 => .ldMemHlC
  | 2 => .ldMemHlD
  | 3 => .ldMemHlE
  | 4 => .ldMemHlH
  | 5 => .ldMemHlL
  | 6 => .halt
  | 7 => .ldMemHlA
  | 8 => .ldAB
  | 9 => .ldAC
  | 10 => .ldAD
  | 11 => .ldAE
  | 12 => .ldAH
  | 13 => .ldAL
  | 14 => .ldAMemHl
  | _ => .ldAA

/-- Opcodes 0x80 to 0x8F (R91), by low nibble. -/
def baseRow8 (_b1 _b2 : Byte) : Nat → Instr
  | 0 => .addAB
  | 1 => .addAC
  | 2 => .addAD
  | 3 => .addAE
  | 4 => .addAH
  | 5 => .addAL
  | 6 => .addAMemHl
  | 7 => .addAA
  | 8 => .adcAB
  | 9 => .adcAC
  | 10 => .adcAD
  | 11 => .adcAE
  | 12 => .adcAH
  | 13 => .adcAL
  | 14 => .adcAMemHl
  | _ => .adcAA

/-- Opcodes 0x90 to 0x9F (R91), by low nibble. -/
def baseRow9 (_b1 _b2 : Byte) : Nat → Instr
  | 0 => .subAB
  | 1 => .subAC
  | 2 => .subAD
  | 3 => .subAE
  | 4 => .subAH
  | 5 => .subAL
  | 6 => .subAMemHl
  | 7 => .subAA
  | 8 => .sbcAB
  | 9 => .sbcAC
  | 10 => .sbcAD
  | 11 => .sbcAE
  | 12 => .sbcAH
  | 13 => .sbcAL
  | 14 => .sbcAMemHl
  | _ => .sbcAA

/-- Opcodes 0xA0 to 0xAF (R91), by low nibble. -/
def baseRowA (_b1 _b2 : Byte) : Nat → Instr
  | 0 => .andAB
  | 1 => .andAC
  | 2 => .andAD
  | 3 => .andAE
  | 4 => .andAH
  | 5 => .andAL
  | 6 => .andAMemHl
  | 7 => .andAA
  | 8 => .xorAB
  | 9 => .xorAC
  | 10 => .xorAD
  | 11 => .xorAE
  | 12 => .xorAH
  | 13 => .xorAL
  | 14 => .xorAMemHl
  | _ => .xorAA

/-- Opcodes 0xB0 to 0xBF (R91), by low nibble. -/
def baseRowB (_b1 _b2 : Byte) : Nat → Instr
  | 0 => .orAB
  | 1 => .orAC
  | 2 => .orAD
  | 3 => .orAE
  | 4 => .orAH
  | 5 => .orAL
  | 6 => .orAMemHl
  | 7 => .orAA
  | 8 => .cpAB
  | 9 => .cpAC
  | 10 => .cpAD
  | 11 => .cpAE
  | 12 => .cpAH
  | 13 => .cpAL
  | 14 => .cpAMemHl
  | _ => .cpAA

/-- Opcodes 0xC0 to 0xCF (R91), by low nibble. -/
def baseRowC (b1 b2 : Byte) : Nat → Instr
  | 0 => .retNz
  | 1 => .popBc
  | 2 => .jpNzA16 (wordOf b2 b1)
  | 3 => .jpA16 (wordOf b2 b1)
  | 4 => .callNzA16 (wordOf b2 b1)
  | 5 => .pushBc
  | 6 => .addAD8 b1
  | 7 => .rst00
  | 8 => .retZ
  | 9 => .ret
  | 10 => .jpZA16 (wordOf b2 b1)
  | 11 => decodeCb b1
  | 12 => .callZA16 (wordOf b2 b1)
  | 13 => .callA16 (wordOf b2 b1)
  | 14 => .adcAD8 b1
  | _ => .rst08

/-- Opcodes 0xD0 to 0xDF (R91), by low nibble. -/
def baseRowD (b1 b2 : Byte) : Nat → Instr
  | 0 => .retNc
  | 1 => .popDe
  | 2 => .jpNcA16 (wordOf b2 b1)
  | 3 => .illegalD3
  | 4 => .callNcA16 (wordOf b2 b1)
  | 5 => .pushDe
  | 6 => .subAD8 b1
  | 7 => .rst10
  | 8 => .retC
  | 9 => .reti
  | 10 => .jpCA16 (wordOf b2 b1)
  | 11 => .illegalDB
  | 12 => .callCA16 (wordOf b2 b1)
  | 13 => .illegalDD
  | 14 => .sbcAD8 b1
  | _ => .rst18

/-- Opcodes 0xE0 to 0xEF (R91), by low nibble. -/
def baseRowE (b1 b2 : Byte) : Nat → Instr
  | 0 => .ldhMemA8A b1
  | 1 => .popHl
  | 2 => .ldMemCA
  | 3 => .illegalE3
  | 4 => .illegalE4
  | 5 => .pushHl
  | 6 => .andAD8 b1
  | 7 => .rst20
  | 8 => .addSpE8 b1
  | 9 => .jpMemHl
  | 10 => .ldMemA16A (wordOf b2 b1)
  | 11 => .illegalEB
  | 12 => .illegalEC
  | 13 => .illegalED
  | 14 => .xorAD8 b1
  | _ => .rst28

/-- Opcodes 0xF0 to 0xFF (R91), by low nibble. -/
def baseRowF (b1 b2 : Byte) : Nat → Instr
  | 0 => .ldhAMemA8 b1
  | 1 => .popAf
  | 2 => .ldAMemC
  | 3 => .di
  | 4 => .illegalF4
  | 5 => .pushAf
  | 6 => .orAD8 b1
  | 7 => .rst30
  | 8 => .ldHlSpE8 b1
  | 9 => .ldSpHl
  | 10 => .ldAMemA16 (wordOf b2 b1)
  | 11 => .ei
  | 12 => .illegalFC
  | 13 => .illegalFD
  | 14 => .cpAD8 b1
  | _ => .rst38

/-- The primary dispatch (R91): the instruction that `op` and the bytes after it make. -/
def decodeOp (op b1 b2 : Byte) : Instr :=
  match op.toNat / 16 with
  | 0 => baseRow0 b1 b2 (op.toNat % 16)
  | 1 => baseRow1 b1 b2 (op.toNat % 16)
  | 2 => baseRow2 b1 b2 (op.toNat % 16)
  | 3 => baseRow3 b1 b2 (op.toNat % 16)
  | 4 => baseRow4 b1 b2 (op.toNat % 16)
  | 5 => baseRow5 b1 b2 (op.toNat % 16)
  | 6 => baseRow6 b1 b2 (op.toNat % 16)
  | 7 => baseRow7 b1 b2 (op.toNat % 16)
  | 8 => baseRow8 b1 b2 (op.toNat % 16)
  | 9 => baseRow9 b1 b2 (op.toNat % 16)
  | 10 => baseRowA b1 b2 (op.toNat % 16)
  | 11 => baseRowB b1 b2 (op.toNat % 16)
  | 12 => baseRowC b1 b2 (op.toNat % 16)
  | 13 => baseRowD b1 b2 (op.toNat % 16)
  | 14 => baseRowE b1 b2 (op.toNat % 16)
  | _ => baseRowF b1 b2 (op.toNat % 16)

/-! ### The decoder -/

/-- Why a list of bytes holds no instruction. Every first byte has a row (R92), so only bytes can be missing. -/
inductive DecodeError where
  /-- There is no first byte. -/
  | noBytes
  /-- `op` begins an instruction longer than the bytes given. -/
  | truncated (op : Byte)
  deriving DecidableEq, Repr

/-- The instruction at the head of a list of bytes, and the bytes after it (R80, R81). -/
def decode (bytes : List Byte) : Except DecodeError (Instr × List Byte) :=
  match bytes with
  | [] => .error .noBytes
  | op :: rest =>
    match instrLength op, rest with
    | 1, _ => .ok (decodeOp op 0 0, rest)
    | 2, b1 :: rest' => .ok (decodeOp op b1 0, rest')
    | 3, b1 :: b2 :: rest' => .ok (decodeOp op b1 b2, rest')
    | _, _ => .error (.truncated op)

/-- The bytes of a table word: bit 0 is the least significant bit of the first byte, except that a row of the
secondary table is numbered byte 0 x 256 + byte 1 (R97), so there the high byte 0xCB comes first. Bytes above
`nbits` are zero, up to the longest instruction (R80). Log entry 11. -/
def tableWordBytes (nbits w : Nat) : List Byte :=
  let byte (k : Nat) : Byte := if 8 * k < nbits then BitVec.ofNat 8 (w / 256 ^ k) else 0
  if nbits = 16 ∧ w / 256 = 0xCB then [0xCB#8, byte 0, 0] else [byte 0, byte 1, byte 2]

/-- What `decode` reads from the table word `w` of `nbits` bits. -/
def decodeTableWord (nbits w : Nat) : Option Instr :=
  match decode (tableWordBytes nbits w) with
  | .ok (i, _) => some i
  | .error _ => none

/-! ### Field values (R85 to R87, R160, R94) -/

/-- R85. -/
def Reg8.index : Reg8 → Nat
  | .b => 0 | .c => 1 | .d => 2 | .e => 3 | .h => 4 | .l => 5 | .a => 7

/-- R85: index 6 is `(HL)`. -/
def Opnd8.index : Opnd8 → Nat
  | .reg r => r.index
  | .memHl => 6

/-- R86. -/
def Pair.index : Pair → Nat
  | .bc => 0 | .de => 1 | .hl => 2 | .sp => 3

/-- R86. -/
def StackPair.index : StackPair → Nat
  | .bc => 0 | .de => 1 | .hl => 2 | .af => 3

/-- R86. -/
def Indirect.index : Indirect → Nat
  | .bc => 0 | .de => 1 | .hlInc => 2 | .hlDec => 3

/-- R87. -/
def Cond.index : Cond → Nat
  | .nz => 0 | .z => 1 | .nc => 2 | .c => 3

/-- R160. -/
def AluOp.index : AluOp → Nat
  | .add => 0 | .adc => 1 | .sub => 2 | .sbc => 3 | .and => 4 | .xor => 5 | .or => 6 | .cp => 7

/-- R94. -/
def RotOp.index : RotOp → Nat
  | .rlc => 0 | .rrc => 1 | .rl => 2 | .rr => 3 | .sla => 4 | .sra => 5 | .swap => 6 | .srl => 7

/-! ### The encoder -/

/-- The operation and operands of each row (R85 to R88, R91, R94). -/
def Instr.form : Instr → Form
  | .nop => .nop
  | .ldBcD16 n => .ldPairImm .bc n
  | .ldMemBcA => .ldIndA .bc
  | .incBc => .incPair .bc
  | .incB => .inc8 (.reg .b)
  | .decB => .dec8 (.reg .b)
  | .ldBD8 n => .ld8Imm (.reg .b) n
  | .rlca => .rlca
  | .ldMemA16Sp a => .ldMemSp a
  | .addHlBc => .addHl .bc
  | .ldAMemBc => .ldAInd .bc
  | .decBc => .decPair .bc
  | .incC => .inc8 (.reg .c)
  | .decC => .dec8 (.reg .c)
  | .ldCD8 n => .ld8Imm (.reg .c) n
  | .rrca => .rrca
  | .stop n => .stop n
  | .ldDeD16 n => .ldPairImm .de n
  | .ldMemDeA => .ldIndA .de
  | .incDe => .incPair .de
  | .incD => .inc8 (.reg .d)
  | .decD => .dec8 (.reg .d)
  | .ldDD8 n => .ld8Imm (.reg .d) n
  | .rla => .rla
  | .jrE8 e => .jr e
  | .addHlDe => .addHl .de
  | .ldAMemDe => .ldAInd .de
  | .decDe => .decPair .de
  | .incE => .inc8 (.reg .e)
  | .decE => .dec8 (.reg .e)
  | .ldED8 n => .ld8Imm (.reg .e) n
  | .rra => .rra
  | .jrNzE8 e => .jrCond .nz e
  | .ldHlD16 n => .ldPairImm .hl n
  | .ldMemHlIncA => .ldIndA .hlInc
  | .incHl => .incPair .hl
  | .incH => .inc8 (.reg .h)
  | .decH => .dec8 (.reg .h)
  | .ldHD8 n => .ld8Imm (.reg .h) n
  | .daa => .daa
  | .jrZE8 e => .jrCond .z e
  | .addHlHl => .addHl .hl
  | .ldAMemHlInc => .ldAInd .hlInc
  | .decHl => .decPair .hl
  | .incL => .inc8 (.reg .l)
  | .decL => .dec8 (.reg .l)
  | .ldLD8 n => .ld8Imm (.reg .l) n
  | .cpl => .cpl
  | .jrNcE8 e => .jrCond .nc e
  | .ldSpD16 n => .ldPairImm .sp n
  | .ldMemHlDecA => .ldIndA .hlDec
  | .incSp => .incPair .sp
  | .incMemHl => .inc8 .memHl
  | .decMemHl => .dec8 .memHl
  | .ldMemHlD8 n => .ld8Imm .memHl n
  | .scf => .scf
  | .jrCE8 e => .jrCond .c e
  | .addHlSp => .addHl .sp
  | .ldAMemHlDec => .ldAInd .hlDec
  | .decSp => .decPair .sp
  | .incA => .inc8 (.reg .a)
  | .decA => .dec8 (.reg .a)
  | .ldAD8 n => .ld8Imm (.reg .a) n
  | .ccf => .ccf
  | .ldBB => .ldRegReg .b .b
  | .ldBC => .ldRegReg .b .c
  | .ldBD => .ldRegReg .b .d
  | .ldBE => .ldRegReg .b .e
  | .ldBH => .ldRegReg .b .h
  | .ldBL => .ldRegReg .b .l
  | .ldBMemHl => .ldRegMem .b
  | .ldBA => .ldRegReg .b .a
  | .ldCB => .ldRegReg .c .b
  | .ldCC => .ldRegReg .c .c
  | .ldCD => .ldRegReg .c .d
  | .ldCE => .ldRegReg .c .e
  | .ldCH => .ldRegReg .c .h
  | .ldCL => .ldRegReg .c .l
  | .ldCMemHl => .ldRegMem .c
  | .ldCA => .ldRegReg .c .a
  | .ldDB => .ldRegReg .d .b
  | .ldDC => .ldRegReg .d .c
  | .ldDD => .ldRegReg .d .d
  | .ldDE => .ldRegReg .d .e
  | .ldDH => .ldRegReg .d .h
  | .ldDL => .ldRegReg .d .l
  | .ldDMemHl => .ldRegMem .d
  | .ldDA => .ldRegReg .d .a
  | .ldEB => .ldRegReg .e .b
  | .ldEC => .ldRegReg .e .c
  | .ldED => .ldRegReg .e .d
  | .ldEE => .ldRegReg .e .e
  | .ldEH => .ldRegReg .e .h
  | .ldEL => .ldRegReg .e .l
  | .ldEMemHl => .ldRegMem .e
  | .ldEA => .ldRegReg .e .a
  | .ldHB => .ldRegReg .h .b
  | .ldHC => .ldRegReg .h .c
  | .ldHD => .ldRegReg .h .d
  | .ldHE => .ldRegReg .h .e
  | .ldHH => .ldRegReg .h .h
  | .ldHL => .ldRegReg .h .l
  | .ldHMemHl => .ldRegMem .h
  | .ldHA => .ldRegReg .h .a
  | .ldLB => .ldRegReg .l .b
  | .ldLC => .ldRegReg .l .c
  | .ldLD => .ldRegReg .l .d
  | .ldLE => .ldRegReg .l .e
  | .ldLH => .ldRegReg .l .h
  | .ldLL => .ldRegReg .l .l
  | .ldLMemHl => .ldRegMem .l
  | .ldLA => .ldRegReg .l .a
  | .ldMemHlB => .ldMemReg .b
  | .ldMemHlC => .ldMemReg .c
  | .ldMemHlD => .ldMemReg .d
  | .ldMemHlE => .ldMemReg .e
  | .ldMemHlH => .ldMemReg .h
  | .ldMemHlL => .ldMemReg .l
  | .halt => .halt
  | .ldMemHlA => .ldMemReg .a
  | .ldAB => .ldRegReg .a .b
  | .ldAC => .ldRegReg .a .c
  | .ldAD => .ldRegReg .a .d
  | .ldAE => .ldRegReg .a .e
  | .ldAH => .ldRegReg .a .h
  | .ldAL => .ldRegReg .a .l
  | .ldAMemHl => .ldRegMem .a
  | .ldAA => .ldRegReg .a .a
  | .addAB => .alu .add (.reg .b)
  | .addAC => .alu .add (.reg .c)
  | .addAD => .alu .add (.reg .d)
  | .addAE => .alu .add (.reg .e)
  | .addAH => .alu .add (.reg .h)
  | .addAL => .alu .add (.reg .l)
  | .addAMemHl => .alu .add .memHl
  | .addAA => .alu .add (.reg .a)
  | .adcAB => .alu .adc (.reg .b)
  | .adcAC => .alu .adc (.reg .c)
  | .adcAD => .alu .adc (.reg .d)
  | .adcAE => .alu .adc (.reg .e)
  | .adcAH => .alu .adc (.reg .h)
  | .adcAL => .alu .adc (.reg .l)
  | .adcAMemHl => .alu .adc .memHl
  | .adcAA => .alu .adc (.reg .a)
  | .subAB => .alu .sub (.reg .b)
  | .subAC => .alu .sub (.reg .c)
  | .subAD => .alu .sub (.reg .d)
  | .subAE => .alu .sub (.reg .e)
  | .subAH => .alu .sub (.reg .h)
  | .subAL => .alu .sub (.reg .l)
  | .subAMemHl => .alu .sub .memHl
  | .subAA => .alu .sub (.reg .a)
  | .sbcAB => .alu .sbc (.reg .b)
  | .sbcAC => .alu .sbc (.reg .c)
  | .sbcAD => .alu .sbc (.reg .d)
  | .sbcAE => .alu .sbc (.reg .e)
  | .sbcAH => .alu .sbc (.reg .h)
  | .sbcAL => .alu .sbc (.reg .l)
  | .sbcAMemHl => .alu .sbc .memHl
  | .sbcAA => .alu .sbc (.reg .a)
  | .andAB => .alu .and (.reg .b)
  | .andAC => .alu .and (.reg .c)
  | .andAD => .alu .and (.reg .d)
  | .andAE => .alu .and (.reg .e)
  | .andAH => .alu .and (.reg .h)
  | .andAL => .alu .and (.reg .l)
  | .andAMemHl => .alu .and .memHl
  | .andAA => .alu .and (.reg .a)
  | .xorAB => .alu .xor (.reg .b)
  | .xorAC => .alu .xor (.reg .c)
  | .xorAD => .alu .xor (.reg .d)
  | .xorAE => .alu .xor (.reg .e)
  | .xorAH => .alu .xor (.reg .h)
  | .xorAL => .alu .xor (.reg .l)
  | .xorAMemHl => .alu .xor .memHl
  | .xorAA => .alu .xor (.reg .a)
  | .orAB => .alu .or (.reg .b)
  | .orAC => .alu .or (.reg .c)
  | .orAD => .alu .or (.reg .d)
  | .orAE => .alu .or (.reg .e)
  | .orAH => .alu .or (.reg .h)
  | .orAL => .alu .or (.reg .l)
  | .orAMemHl => .alu .or .memHl
  | .orAA => .alu .or (.reg .a)
  | .cpAB => .alu .cp (.reg .b)
  | .cpAC => .alu .cp (.reg .c)
  | .cpAD => .alu .cp (.reg .d)
  | .cpAE => .alu .cp (.reg .e)
  | .cpAH => .alu .cp (.reg .h)
  | .cpAL => .alu .cp (.reg .l)
  | .cpAMemHl => .alu .cp .memHl
  | .cpAA => .alu .cp (.reg .a)
  | .retNz => .retCond .nz
  | .popBc => .pop .bc
  | .jpNzA16 a => .jpCond .nz a
  | .jpA16 a => .jp a
  | .callNzA16 a => .callCond .nz a
  | .pushBc => .push .bc
  | .addAD8 n => .aluImm .add n
  | .rst00 => .rst 0
  | .retZ => .retCond .z
  | .ret => .ret
  | .jpZA16 a => .jpCond .z a
  | .prefixCb o => .escapeCb o
  | .callZA16 a => .callCond .z a
  | .callA16 a => .call a
  | .adcAD8 n => .aluImm .adc n
  | .rst08 => .rst 1
  | .retNc => .retCond .nc
  | .popDe => .pop .de
  | .jpNcA16 a => .jpCond .nc a
  | .illegalD3 => .illegal 0xD3#8
  | .callNcA16 a => .callCond .nc a
  | .pushDe => .push .de
  | .subAD8 n => .aluImm .sub n
  | .rst10 => .rst 2
  | .retC => .retCond .c
  | .reti => .reti
  | .jpCA16 a => .jpCond .c a
  | .illegalDB => .illegal 0xDB#8
  | .callCA16 a => .callCond .c a
  | .illegalDD => .illegal 0xDD#8
  | .sbcAD8 n => .aluImm .sbc n
  | .rst18 => .rst 3
  | .ldhMemA8A n => .ldhMemA n
  | .popHl => .pop .hl
  | .ldMemCA => .ldHighCA
  | .illegalE3 => .illegal 0xE3#8
  | .illegalE4 => .illegal 0xE4#8
  | .pushHl => .push .hl
  | .andAD8 n => .aluImm .and n
  | .rst20 => .rst 4
  | .addSpE8 e => .addSp e
  | .jpMemHl => .jpHl
  | .ldMemA16A a => .ldMemA a
  | .illegalEB => .illegal 0xEB#8
  | .illegalEC => .illegal 0xEC#8
  | .illegalED => .illegal 0xED#8
  | .xorAD8 n => .aluImm .xor n
  | .rst28 => .rst 5
  | .ldhAMemA8 n => .ldhAMem n
  | .popAf => .pop .af
  | .ldAMemC => .ldAHighC
  | .di => .di
  | .illegalF4 => .illegal 0xF4#8
  | .pushAf => .push .af
  | .orAD8 n => .aluImm .or n
  | .rst30 => .rst 6
  | .ldHlSpE8 e => .ldHlSp e
  | .ldSpHl => .ldSpHl
  | .ldAMemA16 a => .ldAMem a
  | .ei => .ei
  | .illegalFC => .illegal 0xFC#8
  | .illegalFD => .illegal 0xFD#8
  | .cpAD8 n => .aluImm .cp n
  | .rst38 => .rst 7
  | .cbRlcB => .rot .rlc (.reg .b)
  | .cbRlcC => .rot .rlc (.reg .c)
  | .cbRlcD => .rot .rlc (.reg .d)
  | .cbRlcE => .rot .rlc (.reg .e)
  | .cbRlcH => .rot .rlc (.reg .h)
  | .cbRlcL => .rot .rlc (.reg .l)
  | .cbRlcMemHl => .rot .rlc .memHl
  | .cbRlcA => .rot .rlc (.reg .a)
  | .cbRrcB => .rot .rrc (.reg .b)
  | .cbRrcC => .rot .rrc (.reg .c)
  | .cbRrcD => .rot .rrc (.reg .d)
  | .cbRrcE => .rot .rrc (.reg .e)
  | .cbRrcH => .rot .rrc (.reg .h)
  | .cbRrcL => .rot .rrc (.reg .l)
  | .cbRrcMemHl => .rot .rrc .memHl
  | .cbRrcA => .rot .rrc (.reg .a)
  | .cbRlB => .rot .rl (.reg .b)
  | .cbRlC => .rot .rl (.reg .c)
  | .cbRlD => .rot .rl (.reg .d)
  | .cbRlE => .rot .rl (.reg .e)
  | .cbRlH => .rot .rl (.reg .h)
  | .cbRlL => .rot .rl (.reg .l)
  | .cbRlMemHl => .rot .rl .memHl
  | .cbRlA => .rot .rl (.reg .a)
  | .cbRrB => .rot .rr (.reg .b)
  | .cbRrC => .rot .rr (.reg .c)
  | .cbRrD => .rot .rr (.reg .d)
  | .cbRrE => .rot .rr (.reg .e)
  | .cbRrH => .rot .rr (.reg .h)
  | .cbRrL => .rot .rr (.reg .l)
  | .cbRrMemHl => .rot .rr .memHl
  | .cbRrA => .rot .rr (.reg .a)
  | .cbSlaB => .rot .sla (.reg .b)
  | .cbSlaC => .rot .sla (.reg .c)
  | .cbSlaD => .rot .sla (.reg .d)
  | .cbSlaE => .rot .sla (.reg .e)
  | .cbSlaH => .rot .sla (.reg .h)
  | .cbSlaL => .rot .sla (.reg .l)
  | .cbSlaMemHl => .rot .sla .memHl
  | .cbSlaA => .rot .sla (.reg .a)
  | .cbSraB => .rot .sra (.reg .b)
  | .cbSraC => .rot .sra (.reg .c)
  | .cbSraD => .rot .sra (.reg .d)
  | .cbSraE => .rot .sra (.reg .e)
  | .cbSraH => .rot .sra (.reg .h)
  | .cbSraL => .rot .sra (.reg .l)
  | .cbSraMemHl => .rot .sra .memHl
  | .cbSraA => .rot .sra (.reg .a)
  | .cbSwapB => .rot .swap (.reg .b)
  | .cbSwapC => .rot .swap (.reg .c)
  | .cbSwapD => .rot .swap (.reg .d)
  | .cbSwapE => .rot .swap (.reg .e)
  | .cbSwapH => .rot .swap (.reg .h)
  | .cbSwapL => .rot .swap (.reg .l)
  | .cbSwapMemHl => .rot .swap .memHl
  | .cbSwapA => .rot .swap (.reg .a)
  | .cbSrlB => .rot .srl (.reg .b)
  | .cbSrlC => .rot .srl (.reg .c)
  | .cbSrlD => .rot .srl (.reg .d)
  | .cbSrlE => .rot .srl (.reg .e)
  | .cbSrlH => .rot .srl (.reg .h)
  | .cbSrlL => .rot .srl (.reg .l)
  | .cbSrlMemHl => .rot .srl .memHl
  | .cbSrlA => .rot .srl (.reg .a)
  | .cbBit0B => .bit 0 (.reg .b)
  | .cbBit0C => .bit 0 (.reg .c)
  | .cbBit0D => .bit 0 (.reg .d)
  | .cbBit0E => .bit 0 (.reg .e)
  | .cbBit0H => .bit 0 (.reg .h)
  | .cbBit0L => .bit 0 (.reg .l)
  | .cbBit0MemHl => .bit 0 .memHl
  | .cbBit0A => .bit 0 (.reg .a)
  | .cbBit1B => .bit 1 (.reg .b)
  | .cbBit1C => .bit 1 (.reg .c)
  | .cbBit1D => .bit 1 (.reg .d)
  | .cbBit1E => .bit 1 (.reg .e)
  | .cbBit1H => .bit 1 (.reg .h)
  | .cbBit1L => .bit 1 (.reg .l)
  | .cbBit1MemHl => .bit 1 .memHl
  | .cbBit1A => .bit 1 (.reg .a)
  | .cbBit2B => .bit 2 (.reg .b)
  | .cbBit2C => .bit 2 (.reg .c)
  | .cbBit2D => .bit 2 (.reg .d)
  | .cbBit2E => .bit 2 (.reg .e)
  | .cbBit2H => .bit 2 (.reg .h)
  | .cbBit2L => .bit 2 (.reg .l)
  | .cbBit2MemHl => .bit 2 .memHl
  | .cbBit2A => .bit 2 (.reg .a)
  | .cbBit3B => .bit 3 (.reg .b)
  | .cbBit3C => .bit 3 (.reg .c)
  | .cbBit3D => .bit 3 (.reg .d)
  | .cbBit3E => .bit 3 (.reg .e)
  | .cbBit3H => .bit 3 (.reg .h)
  | .cbBit3L => .bit 3 (.reg .l)
  | .cbBit3MemHl => .bit 3 .memHl
  | .cbBit3A => .bit 3 (.reg .a)
  | .cbBit4B => .bit 4 (.reg .b)
  | .cbBit4C => .bit 4 (.reg .c)
  | .cbBit4D => .bit 4 (.reg .d)
  | .cbBit4E => .bit 4 (.reg .e)
  | .cbBit4H => .bit 4 (.reg .h)
  | .cbBit4L => .bit 4 (.reg .l)
  | .cbBit4MemHl => .bit 4 .memHl
  | .cbBit4A => .bit 4 (.reg .a)
  | .cbBit5B => .bit 5 (.reg .b)
  | .cbBit5C => .bit 5 (.reg .c)
  | .cbBit5D => .bit 5 (.reg .d)
  | .cbBit5E => .bit 5 (.reg .e)
  | .cbBit5H => .bit 5 (.reg .h)
  | .cbBit5L => .bit 5 (.reg .l)
  | .cbBit5MemHl => .bit 5 .memHl
  | .cbBit5A => .bit 5 (.reg .a)
  | .cbBit6B => .bit 6 (.reg .b)
  | .cbBit6C => .bit 6 (.reg .c)
  | .cbBit6D => .bit 6 (.reg .d)
  | .cbBit6E => .bit 6 (.reg .e)
  | .cbBit6H => .bit 6 (.reg .h)
  | .cbBit6L => .bit 6 (.reg .l)
  | .cbBit6MemHl => .bit 6 .memHl
  | .cbBit6A => .bit 6 (.reg .a)
  | .cbBit7B => .bit 7 (.reg .b)
  | .cbBit7C => .bit 7 (.reg .c)
  | .cbBit7D => .bit 7 (.reg .d)
  | .cbBit7E => .bit 7 (.reg .e)
  | .cbBit7H => .bit 7 (.reg .h)
  | .cbBit7L => .bit 7 (.reg .l)
  | .cbBit7MemHl => .bit 7 .memHl
  | .cbBit7A => .bit 7 (.reg .a)
  | .cbRes0B => .res 0 (.reg .b)
  | .cbRes0C => .res 0 (.reg .c)
  | .cbRes0D => .res 0 (.reg .d)
  | .cbRes0E => .res 0 (.reg .e)
  | .cbRes0H => .res 0 (.reg .h)
  | .cbRes0L => .res 0 (.reg .l)
  | .cbRes0MemHl => .res 0 .memHl
  | .cbRes0A => .res 0 (.reg .a)
  | .cbRes1B => .res 1 (.reg .b)
  | .cbRes1C => .res 1 (.reg .c)
  | .cbRes1D => .res 1 (.reg .d)
  | .cbRes1E => .res 1 (.reg .e)
  | .cbRes1H => .res 1 (.reg .h)
  | .cbRes1L => .res 1 (.reg .l)
  | .cbRes1MemHl => .res 1 .memHl
  | .cbRes1A => .res 1 (.reg .a)
  | .cbRes2B => .res 2 (.reg .b)
  | .cbRes2C => .res 2 (.reg .c)
  | .cbRes2D => .res 2 (.reg .d)
  | .cbRes2E => .res 2 (.reg .e)
  | .cbRes2H => .res 2 (.reg .h)
  | .cbRes2L => .res 2 (.reg .l)
  | .cbRes2MemHl => .res 2 .memHl
  | .cbRes2A => .res 2 (.reg .a)
  | .cbRes3B => .res 3 (.reg .b)
  | .cbRes3C => .res 3 (.reg .c)
  | .cbRes3D => .res 3 (.reg .d)
  | .cbRes3E => .res 3 (.reg .e)
  | .cbRes3H => .res 3 (.reg .h)
  | .cbRes3L => .res 3 (.reg .l)
  | .cbRes3MemHl => .res 3 .memHl
  | .cbRes3A => .res 3 (.reg .a)
  | .cbRes4B => .res 4 (.reg .b)
  | .cbRes4C => .res 4 (.reg .c)
  | .cbRes4D => .res 4 (.reg .d)
  | .cbRes4E => .res 4 (.reg .e)
  | .cbRes4H => .res 4 (.reg .h)
  | .cbRes4L => .res 4 (.reg .l)
  | .cbRes4MemHl => .res 4 .memHl
  | .cbRes4A => .res 4 (.reg .a)
  | .cbRes5B => .res 5 (.reg .b)
  | .cbRes5C => .res 5 (.reg .c)
  | .cbRes5D => .res 5 (.reg .d)
  | .cbRes5E => .res 5 (.reg .e)
  | .cbRes5H => .res 5 (.reg .h)
  | .cbRes5L => .res 5 (.reg .l)
  | .cbRes5MemHl => .res 5 .memHl
  | .cbRes5A => .res 5 (.reg .a)
  | .cbRes6B => .res 6 (.reg .b)
  | .cbRes6C => .res 6 (.reg .c)
  | .cbRes6D => .res 6 (.reg .d)
  | .cbRes6E => .res 6 (.reg .e)
  | .cbRes6H => .res 6 (.reg .h)
  | .cbRes6L => .res 6 (.reg .l)
  | .cbRes6MemHl => .res 6 .memHl
  | .cbRes6A => .res 6 (.reg .a)
  | .cbRes7B => .res 7 (.reg .b)
  | .cbRes7C => .res 7 (.reg .c)
  | .cbRes7D => .res 7 (.reg .d)
  | .cbRes7E => .res 7 (.reg .e)
  | .cbRes7H => .res 7 (.reg .h)
  | .cbRes7L => .res 7 (.reg .l)
  | .cbRes7MemHl => .res 7 .memHl
  | .cbRes7A => .res 7 (.reg .a)
  | .cbSet0B => .set 0 (.reg .b)
  | .cbSet0C => .set 0 (.reg .c)
  | .cbSet0D => .set 0 (.reg .d)
  | .cbSet0E => .set 0 (.reg .e)
  | .cbSet0H => .set 0 (.reg .h)
  | .cbSet0L => .set 0 (.reg .l)
  | .cbSet0MemHl => .set 0 .memHl
  | .cbSet0A => .set 0 (.reg .a)
  | .cbSet1B => .set 1 (.reg .b)
  | .cbSet1C => .set 1 (.reg .c)
  | .cbSet1D => .set 1 (.reg .d)
  | .cbSet1E => .set 1 (.reg .e)
  | .cbSet1H => .set 1 (.reg .h)
  | .cbSet1L => .set 1 (.reg .l)
  | .cbSet1MemHl => .set 1 .memHl
  | .cbSet1A => .set 1 (.reg .a)
  | .cbSet2B => .set 2 (.reg .b)
  | .cbSet2C => .set 2 (.reg .c)
  | .cbSet2D => .set 2 (.reg .d)
  | .cbSet2E => .set 2 (.reg .e)
  | .cbSet2H => .set 2 (.reg .h)
  | .cbSet2L => .set 2 (.reg .l)
  | .cbSet2MemHl => .set 2 .memHl
  | .cbSet2A => .set 2 (.reg .a)
  | .cbSet3B => .set 3 (.reg .b)
  | .cbSet3C => .set 3 (.reg .c)
  | .cbSet3D => .set 3 (.reg .d)
  | .cbSet3E => .set 3 (.reg .e)
  | .cbSet3H => .set 3 (.reg .h)
  | .cbSet3L => .set 3 (.reg .l)
  | .cbSet3MemHl => .set 3 .memHl
  | .cbSet3A => .set 3 (.reg .a)
  | .cbSet4B => .set 4 (.reg .b)
  | .cbSet4C => .set 4 (.reg .c)
  | .cbSet4D => .set 4 (.reg .d)
  | .cbSet4E => .set 4 (.reg .e)
  | .cbSet4H => .set 4 (.reg .h)
  | .cbSet4L => .set 4 (.reg .l)
  | .cbSet4MemHl => .set 4 .memHl
  | .cbSet4A => .set 4 (.reg .a)
  | .cbSet5B => .set 5 (.reg .b)
  | .cbSet5C => .set 5 (.reg .c)
  | .cbSet5D => .set 5 (.reg .d)
  | .cbSet5E => .set 5 (.reg .e)
  | .cbSet5H => .set 5 (.reg .h)
  | .cbSet5L => .set 5 (.reg .l)
  | .cbSet5MemHl => .set 5 .memHl
  | .cbSet5A => .set 5 (.reg .a)
  | .cbSet6B => .set 6 (.reg .b)
  | .cbSet6C => .set 6 (.reg .c)
  | .cbSet6D => .set 6 (.reg .d)
  | .cbSet6E => .set 6 (.reg .e)
  | .cbSet6H => .set 6 (.reg .h)
  | .cbSet6L => .set 6 (.reg .l)
  | .cbSet6MemHl => .set 6 .memHl
  | .cbSet6A => .set 6 (.reg .a)
  | .cbSet7B => .set 7 (.reg .b)
  | .cbSet7C => .set 7 (.reg .c)
  | .cbSet7D => .set 7 (.reg .d)
  | .cbSet7E => .set 7 (.reg .e)
  | .cbSet7H => .set 7 (.reg .h)
  | .cbSet7L => .set 7 (.reg .l)
  | .cbSet7MemHl => .set 7 .memHl
  | .cbSet7A => .set 7 (.reg .a)

/-- The opcode byte with value `k`. -/
def opcode (k : Nat) : Byte := BitVec.ofNat 8 k

/-- The bytes of an operation and its operands, by the Encoding line of each instruction's rule. -/
def Form.encode : Form → List Byte
  | .nop => [opcode 0x00]
  | .ldMemSp a => [opcode 0x08, loByte a, hiByte a]
  | .stop n => [opcode 0x10, n]
  | .jr e => [opcode 0x18, e]
  | .jrCond cc e => [opcode (0x20 + 8 * cc.index), e]
  | .ldPairImm p n => [opcode (0x01 + 16 * p.index), loByte n, hiByte n]
  | .addHl p => [opcode (0x09 + 16 * p.index)]
  | .ldIndA i => [opcode (0x02 + 16 * i.index)]
  | .ldAInd i => [opcode (0x0A + 16 * i.index)]
  | .incPair p => [opcode (0x03 + 16 * p.index)]
  | .decPair p => [opcode (0x0B + 16 * p.index)]
  | .inc8 o => [opcode (0x04 + 8 * o.index)]
  | .dec8 o => [opcode (0x05 + 8 * o.index)]
  | .ld8Imm o n => [opcode (0x06 + 8 * o.index), n]
  | .rlca => [opcode 0x07]
  | .rrca => [opcode 0x0F]
  | .rla => [opcode 0x17]
  | .rra => [opcode 0x1F]
  | .daa => [opcode 0x27]
  | .cpl => [opcode 0x2F]
  | .scf => [opcode 0x37]
  | .ccf => [opcode 0x3F]
  | .halt => [opcode 0x76]
  | .ldRegReg dst src => [opcode (0x40 + 8 * dst.index + src.index)]
  | .ldRegMem dst => [opcode (0x46 + 8 * dst.index)]
  | .ldMemReg src => [opcode (0x70 + src.index)]
  | .alu op o => [opcode (0x80 + 8 * op.index + o.index)]
  | .aluImm op n => [opcode (0xC6 + 8 * op.index), n]
  | .retCond cc => [opcode (0xC0 + 8 * cc.index)]
  | .ret => [opcode 0xC9]
  | .reti => [opcode 0xD9]
  | .ldhMemA n => [opcode 0xE0, n]
  | .ldhAMem n => [opcode 0xF0, n]
  | .ldHighCA => [opcode 0xE2]
  | .ldAHighC => [opcode 0xF2]
  | .addSp e => [opcode 0xE8, e]
  | .ldHlSp e => [opcode 0xF8, e]
  | .pop p => [opcode (0xC1 + 16 * p.index)]
  | .push p => [opcode (0xC5 + 16 * p.index)]
  | .jpHl => [opcode 0xE9]
  | .ldSpHl => [opcode 0xF9]
  | .jpCond cc a => [opcode (0xC2 + 8 * cc.index), loByte a, hiByte a]
  | .jp a => [opcode 0xC3, loByte a, hiByte a]
  | .ldMemA a => [opcode 0xEA, loByte a, hiByte a]
  | .ldAMem a => [opcode 0xFA, loByte a, hiByte a]
  | .di => [opcode 0xF3]
  | .ei => [opcode 0xFB]
  | .callCond cc a => [opcode (0xC4 + 8 * cc.index), loByte a, hiByte a]
  | .call a => [opcode 0xCD, loByte a, hiByte a]
  | .rst t => [opcode (0xC7 + 8 * t.val)]
  | .illegal op => [op]
  | .escapeCb o => [opcode 0xCB, o]
  | .rot op o => [opcode 0xCB, opcode (8 * op.index + o.index)]
  | .bit n o => [opcode 0xCB, opcode (0x40 + 8 * n.val + o.index)]
  | .res n o => [opcode 0xCB, opcode (0x80 + 8 * n.val + o.index)]
  | .set n o => [opcode 0xCB, opcode (0xC0 + 8 * n.val + o.index)]

/-- The bytes of an instruction. -/
def encode (i : Instr) : List Byte := i.form.encode

end Sys2Proof
end

