-- ==== Sys2Proof/Config.lean ====
section
/-! DEFINITION. The parameters of R7 as plain data. A launch takes them (`State.launch`), a state carries those that
last, and no step writes them; the spec's defaults are in `Machine/Params.lean`. The image and its size stand in State
by themselves, `INIT_RAM` is an argument of reset, `WAKE` a move of the environment, `END_OF_RUN` an argument of a run. -/

namespace Sys2Proof

/-- `INIT_REGS` (R7, R36): the register values after reset, which the spec leaves open. -/
structure InitRegs where
  af : Word
  bc : Word
  de : Word
  hl : Word
  sp : Word
  deriving DecidableEq, Repr

/-- A duration table for every byte, as the spec lays it out (R323): a row for each high digit, a column for each low. -/
abbrev DurTable := List (List Nat)

/-- The parameters that last as long as the machine (R7). -/
structure Params where
  /-- `RESET_PC` (R36, D2). -/
  resetPc : Word
  /-- `EXT_REGION` (R67, D18) as the closed ranges it is made of. -/
  extRegion : List (Word × Word)
  /-- `DUR_BASE` by opcode (R322, D16). -/
  durBase : DurTable
  /-- `DUR_CB` by the byte after 0xCB (R322, D16). -/
  durCb : DurTable
  /-- `DUR_TAKEN` by opcode (R322, D16); only the conditional transfers' entries are read. -/
  durTaken : DurTable
  /-- `DUR_IDLE` (R322, D16). -/
  durIdle : Nat
  deriving DecidableEq, Repr

end Sys2Proof
end

