-- ==== Sys2Proof/Machine/Params.lean ====
section
/-! DEFINITION. The defaults the spec names for the parameters of R7, and the look-ups of the parameters. Only
`State.reset` takes the defaults: every other state carries parameters of its own. -/

namespace Sys2Proof.Machine

/-- PRESUMED, log entry 1: the `INIT_REGS` the family's boot code leaves, quoted for reference in R36. Unsafe for claims
about `State.reset`. -/
def defaultInitRegs : InitRegs :=
  { af := 0x01B0#16, bc := 0x0013#16, de := 0x00D8#16, hl := 0x014D#16, sp := 0xFFFE#16 }

/-- `DUR_BASE` (R323), row by row. An illegal opcode has no duration and stands as 0: its step faults. The entry of
0xCB is not used. -/
def defaultDurBase : DurTable :=
  [[4, 12, 8, 8, 4, 4, 8, 4, 20, 8, 8, 8, 4, 4, 8, 4],
   [4, 12, 8, 8, 4, 4, 8, 4, 12, 8, 8, 8, 4, 4, 8, 4],
   [8, 12, 8, 8, 4, 4, 8, 4, 8, 8, 8, 8, 4, 4, 8, 4],
   [8, 12, 8, 8, 12, 12, 12, 4, 8, 8, 8, 8, 4, 4, 8, 4],
   [4, 4, 4, 4, 4, 4, 8, 4, 4, 4, 4, 4, 4, 4, 8, 4],
   [4, 4, 4, 4, 4, 4, 8, 4, 4, 4, 4, 4, 4, 4, 8, 4],
   [4, 4, 4, 4, 4, 4, 8, 4, 4, 4, 4, 4, 4, 4, 8, 4],
   [8, 8, 8, 8, 8, 8, 4, 8, 4, 4, 4, 4, 4, 4, 8, 4],
   [4, 4, 4, 4, 4, 4, 8, 4, 4, 4, 4, 4, 4, 4, 8, 4],
   [4, 4, 4, 4, 4, 4, 8, 4, 4, 4, 4, 4, 4, 4, 8, 4],
   [4, 4, 4, 4, 4, 4, 8, 4, 4, 4, 4, 4, 4, 4, 8, 4],
   [4, 4, 4, 4, 4, 4, 8, 4, 4, 4, 4, 4, 4, 4, 8, 4],
   [8, 12, 12, 16, 12, 16, 8, 16, 8, 16, 12, 4, 12, 24, 8, 16],
   [8, 12, 12, 0, 12, 16, 8, 16, 8, 16, 12, 0, 12, 0, 8, 16],
   [12, 12, 8, 0, 0, 16, 8, 16, 16, 4, 16, 0, 0, 0, 8, 16],
   [12, 12, 8, 4, 0, 16, 8, 16, 12, 8, 16, 4, 0, 0, 8, 16]]

/-- An entry of `DUR_CB` (R323), the total for the two-byte instruction. -/
def defaultDurCbEntry (o : Nat) : Nat :=
  if o % 8 ≠ 6 then 8 else if 0x40 ≤ o ∧ o < 0x80 then 12 else 16

/-- An entry of `DUR_TAKEN` (R323); 0 where the opcode is no conditional transfer, so that the entry is not read. -/
def defaultDurTakenEntry (op : Nat) : Nat :=
  match op with
  | 0x20 | 0x28 | 0x30 | 0x38 => 12
  | 0xC2 | 0xCA | 0xD2 | 0xDA => 16
  | 0xC4 | 0xCC | 0xD4 | 0xDC => 24
  | 0xC0 | 0xC8 | 0xD0 | 0xD8 => 20
  | _ => 0

/-- The table with these entries. -/
def durTable (entry : Nat → Nat) : DurTable :=
  (List.range 16).map fun hi => (List.range 16).map fun lo => entry (16 * hi + lo)

/-- The defaults of R7 and R323, which the spec takes from general knowledge. PRESUMED, log entries 2, 6 and 8. Unsafe
for claims about `State.reset`. -/
def defaultParams : Params :=
  { resetPc := 0x0100#16
    extRegion := [(0xFF00#16, 0xFF7F#16), (0xFFFF#16, 0xFFFF#16)]
    durBase := defaultDurBase
    durCb := durTable defaultDurCbEntry
    durTaken := durTable defaultDurTakenEntry
    durIdle := 4 }

/-- Membership in `EXT_REGION`, a set of addresses in 0x8000 to 0xFFFF (R7, R67). -/
def inExtRegion (p : Params) (a : Word) : Bool :=
  decide (0x8000 ≤ a.toNat) && p.extRegion.any fun r => decide (r.1 ≤ a) && decide (a ≤ r.2)

/-- The entry of a duration table for a byte. DESIGN CHOICE, log entry 6: where a table has no entry it counts as 0; the
spec's tables have every entry that is read. -/
def durEntry (table : DurTable) (b : Byte) : Nat := (table.getD (b.toNat / 16) []).getD (b.toNat % 16) 0

end Sys2Proof.Machine
end

