-- ==== Sys2Proof/Machine/State.lean ====
section
/-! DEFINITION. The state of the block (10_state.md), how a step can stop, and the state after reset (R36). -/

namespace Sys2Proof.Machine

/-- A memory as the cells that differ from `Memory.unlisted`, by rising address. -/
abbrev Memory := List Host.Cell

/-- What an address with no cell reads as. A list can hold any contents, so this chooses nothing for a state in
general; it fixes the RAM of `State.reset` only. DESIGN CHOICE, log entry 3. Unsafe for claims about `State.reset`. -/
def Memory.unlisted : Byte := 0x00#8

/-- The canonical form: addresses strictly rise and no cell holds what an unlisted address reads as. -/
def Memory.wf : Memory → Bool
  | [] => true
  | (a, v) :: m => v != Memory.unlisted && m.all (fun c => decide (a < c.1)) && Memory.wf m

/-- Every cell's address lies in `[lo, hi)`. -/
def Memory.within (lo hi : Nat) (m : Memory) : Bool :=
  m.all fun c => decide (lo ≤ c.1) && decide (c.1 < hi)

/-- The canonical memory that holds `bytes` from address `base` on. -/
def Memory.ofBytes (base : Nat) : List Byte → Memory
  | [] => []
  | v :: vs =>
    if v = Memory.unlisted then Memory.ofBytes (base + 1) vs else (base, v) :: Memory.ofBytes (base + 1) vs

/-- `run_state` (R33, R296). -/
inductive RunState where
  | running
  | halted
  | stopped
  deriving DecidableEq, Repr

/-- The whole state (10_state.md, head), the ROM parameter (R35, R7) and the lasting parameters (R7). -/
structure State where
  /-- A in bits 15:8, the flags byte F in bits 7:0 (R21, R24). -/
  af : Word
  /-- B and C (R21). -/
  bc : Word
  /-- D and E (R21). -/
  de : Word
  /-- H and L (R21). -/
  hl : Word
  /-- The stack pointer (R26). -/
  sp : Word
  /-- The address of the next instruction's first byte (R27). -/
  pc : Word
  /-- The interrupt master enable, one bit (R30). -/
  ime : Bool
  /-- Running, Halted or Stopped (R33). -/
  runState : RunState
  /-- The elapsed-cycle counter, unbounded (R32). -/
  cyc : Nat
  /-- The byte offset into the ROM of what 0x4000 shows (R31). -/
  bankBase : Nat
  /-- RAM by address, 0x8000 to 0xFFFF (R35, R53). -/
  ram : Memory
  /-- The cartridge image by index, below `romSize` (R35). -/
  rom : Memory
  /-- `ROM_SIZE`, the number of bytes in the image (R7). -/
  romSize : Nat
  /-- The lasting parameters of R7. No step and no move of the environment writes them. -/
  params : Params
  deriving DecidableEq, Repr

/-- The faults of a step (R280). A fault hands on no state: the state after it is the state before it (R283). -/
inductive Fault where
  /-- R281: raised by the eleven illegal rows, with the address of the byte and the byte. Safe: the spec's own fault. -/
  | illegalOpcode (addr : Word) (op : Byte)
  /-- R282: raised by every read (fetch, operand, stack) whose ROM index is at or beyond `romSize`, with the address
  read and that index. Safe: the spec's own fault. -/
  | bankOutOfRange (addr : Word) (index : Nat)
  deriving DecidableEq, Repr

/-- The refusals of a step. -/
inductive Refusal where
  /-- An instruction without a meaning: raised by no arm of this model. Safe. -/
  | notModelled (mnemonic : String)
  deriving DecidableEq, Repr

/-- The state that reset constructs from the parameters of R7 (R36, R310). F[3:0] is forced to 0 (R24). -/
def State.launch (p : Params) (init : InitRegs) (ram rom : Memory) (romSize : Nat) : State :=
  { af := init.af &&& 0xFFF0#16, bc := init.bc, de := init.de, hl := init.hl, sp := init.sp
    pc := p.resetPc
    ime := false
    runState := .running
    cyc := 0
    bankBase := 0x4000
    ram := ram
    rom := rom
    romSize := romSize
    params := p }

/-- The machine right after reset: the default parameters, no RAM byte listed, no image loaded.
Log entries 1 to 4, 6 and 8. -/
def State.reset : State := State.launch defaultParams defaultInitRegs [] [] 0

end Sys2Proof.Machine
end

