-- ==== Sys2Proof/Machine/Ops.lean ====
section
/-! DEFINITION. The named operations over memory and registers: the memory primitives (R56 to R60), the register
accessors (R21, R22, R24), the stack (R145, R146), the fetch (R28), and how a meaning ends. There is no exception
entry to share: the block has none (R289); a fault ends the step with the state unchanged (R283). -/

namespace Sys2Proof.Machine

/-! ### Memories as lists of cells -/

/-- The byte at `a`. -/
def Memory.read : Memory → Nat → Byte
  | [], _ => Memory.unlisted
  | (k, v) :: m, a => if a = k then v else if a < k then Memory.unlisted else Memory.read m a

/-- The memory with `v` at `a`, in canonical form. -/
def Memory.write : Memory → Nat → Byte → Memory
  | [], a, v => if v = Memory.unlisted then [] else [(a, v)]
  | (k, w) :: m, a, v =>
    if a = k then (if v = Memory.unlisted then m else (a, v) :: m)
    else if a < k then (if v = Memory.unlisted then (k, w) :: m else (a, v) :: (k, w) :: m)
    else (k, w) :: Memory.write m a v

/-! ### The memory unit -/

/-- The ROM index a read of `a` resolves to, or none where it resolves to RAM (R51, R56). -/
def State.romIndex (s : State) (a : Word) : Option Nat :=
  if a.toNat < 0x4000 then some a.toNat
  else if a.toNat < 0x8000 then some (s.bankBase + (a.toNat - 0x4000))
  else none

/-- `MemRead(a, 1)` (R54, R56). -/
def memRead8 (s : State) (a : Word) : Except Fault Byte :=
  match s.romIndex a with
  | some i => if i < s.romSize then .ok (s.rom.read i) else .error (.bankOutOfRange a i)
  | none => .ok (s.ram.read a.toNat)

/-- `select_bank(v)` (R60). -/
def selectBank (s : State) (v : Byte) : State :=
  if v.toNat % 32 = 0 then s else { s with bankBase := 0x4000 * (v.toNat % 32) }

/-- `MemWrite(a, 1, v)` (R57, R61). -/
def memWrite8 (s : State) (a : Word) (v : Byte) : State :=
  if a.toNat < 0x8000 then
    if 0x2000 ≤ a.toNat ∧ a.toNat < 0x4000 then selectBank s v else s
  else { s with ram := s.ram.write a.toNat v }

/-- `MemRead(a, 2)` (R58): the low-address byte is read, and can fault, first. -/
def memRead16 (s : State) (a : Word) : Except Fault Word :=
  match memRead8 s a with
  | .error f => .error f
  | .ok lo =>
    match memRead8 s (a + 1) with
    | .error f => .error f
    | .ok hi => .ok (wordOf hi lo)

/-- `MemWrite(a, 2, v)` (R59): low byte first. -/
def memWrite16 (s : State) (a v : Word) : State :=
  memWrite8 (memWrite8 s a (loByte v)) (a + 1) (hiByte v)

/-! ### Registers -/

/-- The word with its high byte replaced (R21). -/
def setHi (w : Word) (v : Byte) : Word := wordOf v (loByte w)

/-- The word with its low byte replaced (R21). -/
def setLo (w : Word) (v : Byte) : Word := wordOf (hiByte w) v

/-- Read an 8-bit register (R21). -/
def State.reg8 (s : State) : Reg8 → Byte
  | .b => hiByte s.bc
  | .c => loByte s.bc
  | .d => hiByte s.de
  | .e => loByte s.de
  | .h => hiByte s.hl
  | .l => loByte s.hl
  | .a => hiByte s.af

/-- Write an 8-bit register; the other half of its pair is kept (R21, R22). -/
def State.setReg8 (s : State) (r : Reg8) (v : Byte) : State :=
  match r with
  | .b => { s with bc := setHi s.bc v }
  | .c => { s with bc := setLo s.bc v }
  | .d => { s with de := setHi s.de v }
  | .e => { s with de := setLo s.de v }
  | .h => { s with hl := setHi s.hl v }
  | .l => { s with hl := setLo s.hl v }
  | .a => { s with af := setHi s.af v }

/-- A (R21). -/
def State.a (s : State) : Byte := s.reg8 .a

/-- The flags byte F (R24). -/
def State.f (s : State) : Byte := loByte s.af

/-- Read a pair of `R16` (R86). -/
def State.pair (s : State) : Pair → Word
  | .bc => s.bc
  | .de => s.de
  | .hl => s.hl
  | .sp => s.sp

/-- Write a pair of `R16` (R86). -/
def State.setPair (s : State) (p : Pair) (v : Word) : State :=
  match p with
  | .bc => { s with bc := v }
  | .de => { s with de := v }
  | .hl => { s with hl := v }
  | .sp => { s with sp := v }

/-- Read a pair of `R16S` (R86). -/
def State.stackPair (s : State) : StackPair → Word
  | .bc => s.bc
  | .de => s.de
  | .hl => s.hl
  | .af => s.af

/-- Write a pair of `R16S`; a write of AF keeps F[3:0] at 0 (R22, R24). -/
def State.setStackPair (s : State) (p : StackPair) (v : Word) : State :=
  match p with
  | .bc => { s with bc := v }
  | .de => { s with de := v }
  | .hl => { s with hl := v }
  | .af => { s with af := v &&& 0xFFF0#16 }

/-! ### The program counter -/

/-- `next` (R12): the address after an instruction of `len` bytes at `pc`. -/
def State.nextPc (s : State) (len : Nat) : Word := s.pc + BitVec.ofNat 16 len

/-- `pc <- v`. -/
def State.jump (s : State) (v : Word) : State := { s with pc := v }

/-- `pc <- next` (R29). -/
def State.advance (s : State) (len : Nat) : State := s.jump (s.nextPc len)

/-- `sext_16` (R8, R89). -/
def sext16 (e : Byte) : Word := e.signExtend 16

/-- The page of LDH and LD (C) (R89): `0xFF00 + zext_16(n)`. -/
def highPage (n : Byte) : Word := 0xFF00#16 + n.setWidth 16

/-! ### The stack -/

/-- `push16(v)` (R145). -/
def push16 (s : State) (v : Word) : State :=
  memWrite16 { s with sp := s.sp - 2 } (s.sp - 2) v

/-- The word `pop16` returns (R146). -/
def popWord (s : State) : Except Fault Word := memRead16 s s.sp

/-- The state `pop16` leaves (R146). -/
def State.popped (s : State) : State := { s with sp := s.sp + 2 }

/-! ### How a meaning ends -/

/-- What a meaning answers. -/
abbrev Result := Host.Outcome State Fault Refusal

/-- Read first, then change state: a failed read is the step's fault and changes nothing (R283). -/
def withRead {α : Type} (r : Except Fault α) (k : α → State) : Result :=
  match r with
  | .ok v => .next (k v)
  | .error f => .fault f

/-! ### The fetch -/

/-- The bytes of the instruction at `pc`: the opcode and the operand bytes its length calls for, each read with
`MemRead` in order, so that the first fault is the lowest byte's (R28, R284). A byte beyond the length is not read
and stands as 0. -/
def fetch (s : State) : Except Fault (Byte × Byte × Byte) :=
  match memRead8 s s.pc with
  | .error f => .error f
  | .ok op =>
    if instrLength op = 1 then .ok (op, 0, 0)
    else
      match memRead8 s (s.pc + 1) with
      | .error f => .error f
      | .ok b1 =>
        if instrLength op = 2 then .ok (op, b1, 0)
        else
          match memRead8 s (s.pc + 2) with
          | .error f => .error f
          | .ok b2 => .ok (op, b1, b2)

/-! ### Placing a program (log entry 4) -/

/-- The state whose next read of `a` gives `v`: the host's placement of one program byte, in the image (which grows
to hold it) or in RAM. -/
def placeByte (s : State) (a : Word) (v : Byte) : State :=
  match s.romIndex a with
  | some i => { s with rom := s.rom.write i v, romSize := max s.romSize (i + 1) }
  | none => { s with ram := s.ram.write a.toNat v }

/-- Place bytes from address `a` on. -/
def placeBytes (s : State) (a : Word) : List Byte → State
  | [] => s
  | v :: vs => placeBytes (placeByte s a v) (a + 1) vs

end Sys2Proof.Machine
end

