-- ==== Sys2Proof/Machine/Flags.lean ====
section
/-! DEFINITION. The flags (R24) and every flag computation. Operands are taken to unbounded naturals, compared
there, and the result narrowed at the end (R161). -/

namespace Sys2Proof.Machine

/-! ### Reading and writing F -/

/-- `F.Z` (R24). -/
def State.flagZ (s : State) : Bool := s.af.getLsbD 7
/-- `F.N` (R24). -/
def State.flagN (s : State) : Bool := s.af.getLsbD 6
/-- `F.H` (R24). -/
def State.flagH (s : State) : Bool := s.af.getLsbD 5
/-- `F.C` (R24). -/
def State.flagC (s : State) : Bool := s.af.getLsbD 4

/-- The flags byte with bits 7 to 4 as given and bits 3 to 0 those of `low` (R13, R24). -/
def flagsByte (z n h c : Bool) (low : Byte) : Byte :=
  (BitVec.ofBool z ++ BitVec.ofBool n ++ BitVec.ofBool h ++ BitVec.ofBool c ++ low.extractLsb' 0 4 : BitVec 8)

/-- Write the four flags; "every flag-setting rule writes only bits 7 to 4" (R24). -/
def State.setFlags (s : State) (z n h c : Bool) : State :=
  { s with af := setLo s.af (flagsByte z n h c s.f) }

/-- `cond(cc)` (R87). -/
def State.cond (s : State) : Cond → Bool
  | .nz => !s.flagZ
  | .z => s.flagZ
  | .nc => !s.flagC
  | .c => s.flagC

/-! ### Results with flags -/

/-- An 8-bit result and the four flags that go with it. -/
structure Flagged where
  res : Byte
  z : Bool
  n : Bool
  h : Bool
  c : Bool
  deriving DecidableEq, Repr

/-- A flag that is 1 as the number 1 (R8). -/
def bitNat (b : Bool) : Nat := b.toNat

/-- `a + b + cin` (R163, R164). -/
def addFlags (a b : Byte) (cin : Bool) : Flagged :=
  let sum := a.toNat + b.toNat + bitNat cin
  { res := BitVec.ofNat 8 sum
    z := decide (sum % 256 = 0)
    n := false
    h := decide (a.toNat % 16 + b.toNat % 16 + bitNat cin > 0xF)
    c := decide (sum > 0xFF) }

/-- `a - b - cin` (R165, R166, R170). -/
def subFlags (a b : Byte) (cin : Bool) : Flagged :=
  let res := a - b - BitVec.ofNat 8 (bitNat cin)
  { res := res
    z := decide (res = 0)
    n := true
    h := decide (a.toNat % 16 < b.toNat % 16 + bitNat cin)
    c := decide (a.toNat < b.toNat + bitNat cin) }

/-- A logical result: Z from it, N and C clear, H as given (R167 to R169). -/
def logicFlags (res : Byte) (h : Bool) : Flagged :=
  { res := res, z := decide (res = 0), n := false, h := h, c := false }

/-- The eight accumulator operations (R160, R163 to R170) on A, the operand and the carry before. -/
def aluFlags (op : AluOp) (a b : Byte) (cin : Bool) : Flagged :=
  match op with
  | .add => addFlags a b false
  | .adc => addFlags a b cin
  | .sub => subFlags a b false
  | .sbc => subFlags a b cin
  | .and => logicFlags (a &&& b) true
  | .xor => logicFlags (a ^^^ b) false
  | .or => logicFlags (a ||| b) false
  | .cp => { subFlags a b false with res := a }

/-- INC of an 8-bit operand; Carry is kept (R171). -/
def incFlags (v : Byte) (c : Bool) : Flagged :=
  { res := v + 1, z := decide (v + 1 = 0), n := false, h := decide (v.toNat % 16 = 0xF), c := c }

/-- DEC of an 8-bit operand; Carry is kept (R172). -/
def decFlags (v : Byte) (c : Bool) : Flagged :=
  { res := v - 1, z := decide (v - 1 = 0), n := true, h := decide (v.toNat % 16 = 0), c := c }

/-- DAA (R173): the corrected accumulator and the flags, from A and the flags before. -/
def daaFlags (a : Byte) (n h c : Bool) : Flagged :=
  let hi : Bool := if n then c else c || decide (a.toNat > 0x99)
  let lo : Bool := if n then h else h || decide (a.toNat % 16 > 9)
  let corr : Byte := (if hi then 0x60#8 else 0) + (if lo then 0x06#8 else 0)
  let res := if n then a - corr else a + corr
  { res := res, z := decide (res = 0), n := n, h := false, c := hi }

/-- The 8-bit sum of SP's low byte and an unsigned displacement byte gives H and C (R144, R193). -/
def spDispH (sp : Word) (e : Byte) : Bool := decide (sp.toNat % 16 + e.toNat % 16 > 0xF)
/-- As `spDispH`, carry out of bit 7 (R144, R193). -/
def spDispC (sp : Word) (e : Byte) : Bool := decide (sp.toNat % 256 + e.toNat > 0xFF)

/-- ADD HL,rr: carry out of bit 11 (R190). -/
def addHlH (hl v : Word) : Bool := decide (hl.toNat % 4096 + v.toNat % 4096 > 0xFFF)
/-- ADD HL,rr: carry out of bit 15 (R190). -/
def addHlC (hl v : Word) : Bool := decide (hl.toNat + v.toNat > 0xFFFF)

/-! ### Rotates and shifts -/

/-- `v[6:0] ++ b`. -/
def shiftInLow (v : Byte) (b : Bool) : Byte := (v.extractLsb' 0 7 ++ BitVec.ofBool b : BitVec 8)

/-- `b ++ v[7:1]`. -/
def shiftInHigh (b : Bool) (v : Byte) : Byte := (BitVec.ofBool b ++ v.extractLsb' 1 7 : BitVec 8)

/-- The result and the bit shifted out of each rotate and shift (R205 to R212), from the operand and the carry
before. -/
def rotResult (op : RotOp) (v : Byte) (cin : Bool) : Byte × Bool :=
  match op with
  | .rlc => (shiftInLow v (v.getLsbD 7), v.getLsbD 7)
  | .rrc => (shiftInHigh (v.getLsbD 0) v, v.getLsbD 0)
  | .rl => (shiftInLow v cin, v.getLsbD 7)
  | .rr => (shiftInHigh cin v, v.getLsbD 0)
  | .sla => (shiftInLow v false, v.getLsbD 7)
  | .sra => (shiftInHigh (v.getLsbD 7) v, v.getLsbD 0)
  | .swap => ((v.extractLsb' 0 4 ++ v.extractLsb' 4 4 : BitVec 8), false)
  | .srl => (shiftInHigh false v, v.getLsbD 0)

/-- The secondary table's form: Z from the result (R205 to R212). -/
def rotFlags (op : RotOp) (v : Byte) (cin : Bool) : Flagged :=
  let r := rotResult op v cin
  { res := r.1, z := decide (r.1 = 0), n := false, h := false, c := r.2 }

/-- The accumulator form: Z forced clear (R200 to R203). -/
def rotAccFlags (op : RotOp) (v : Byte) (cin : Bool) : Flagged :=
  { rotFlags op v cin with z := false }

end Sys2Proof.Machine
end

