-- ==== Sys2Proof/Machine/Operands.lean ====
section
/-! DEFINITION. The operand forms (R85, R86): reading and writing `R8(i)`, the indirect operands, and writing a
result with its flags. -/

namespace Sys2Proof.Machine

/-- `R8(i)` (R11, R85): a register, or `MemRead(HL, 1)`. -/
def readOpnd (s : State) : Opnd8 → Except Fault Byte
  | .reg r => .ok (s.reg8 r)
  | .memHl => memRead8 s s.hl

/-- `R8(i) <- v` (R11, R85): a register, or `MemWrite(HL, 1, v)`. -/
def writeOpnd (s : State) (o : Opnd8) (v : Byte) : State :=
  match o with
  | .reg r => s.setReg8 r v
  | .memHl => memWrite8 s s.hl v

/-- The address of an indirect operand (R86). -/
def indirectAddr (s : State) : Indirect → Word
  | .bc => s.bc
  | .de => s.de
  | .hlInc | .hlDec => s.hl

/-- What an indirect operand does to HL after its access (R126 to R129). -/
def afterIndirect (s : State) : Indirect → State
  | .bc | .de => s
  | .hlInc => { s with hl := s.hl + 1 }
  | .hlDec => { s with hl := s.hl - 1 }

/-- Write the flags of a result. -/
def State.putFlags (s : State) (r : Flagged) : State := s.setFlags r.z r.n r.h r.c

end Sys2Proof.Machine
end

