-- ==== Sys2Proof/Machine/Alu16.lean ====
section
/-! DEFINITION. 16-bit arithmetic (43_alu16.md). First the shared operations, then one meaning per row. -/

namespace Sys2Proof.Machine

/-- R190: Z is kept, N cleared. -/
def addHlPair (p : Pair) (s : State) : Result :=
  .next (((s.setPair .hl (s.hl + s.pair p)).setFlags s.flagZ false (addHlH s.hl (s.pair p))
    (addHlC s.hl (s.pair p))).advance 1)

/-- R191: no flag changes. -/
def incPair (p : Pair) (s : State) : Result :=
  .next ((s.setPair p (s.pair p + 1)).advance 1)

/-- R192: no flag changes. -/
def decPair (p : Pair) (s : State) : Result :=
  .next ((s.setPair p (s.pair p - 1)).advance 1)

/-- R193: the flags use SP before the write. -/
def addSpDisp (e : Byte) (s : State) : Result :=
  .next (((s.setPair .sp (s.sp + sext16 e)).setFlags false false (spDispH s.sp e) (spDispC s.sp e)).advance 2)

/-! ### One meaning per row -/

/-- `INC BC` (R191). -/
def execIncBc (s : State) : Result := incPair .bc s

/-- `ADD HL,BC` (R190). -/
def execAddHlBc (s : State) : Result := addHlPair .bc s

/-- `DEC BC` (R192). -/
def execDecBc (s : State) : Result := decPair .bc s

/-- `INC DE` (R191). -/
def execIncDe (s : State) : Result := incPair .de s

/-- `ADD HL,DE` (R190). -/
def execAddHlDe (s : State) : Result := addHlPair .de s

/-- `DEC DE` (R192). -/
def execDecDe (s : State) : Result := decPair .de s

/-- `INC HL` (R191). -/
def execIncHl (s : State) : Result := incPair .hl s

/-- `ADD HL,HL` (R190). -/
def execAddHlHl (s : State) : Result := addHlPair .hl s

/-- `DEC HL` (R192). -/
def execDecHl (s : State) : Result := decPair .hl s

/-- `INC SP` (R191). -/
def execIncSp (s : State) : Result := incPair .sp s

/-- `ADD HL,SP` (R190). -/
def execAddHlSp (s : State) : Result := addHlPair .sp s

/-- `DEC SP` (R192). -/
def execDecSp (s : State) : Result := decPair .sp s

/-- `ADD SP,e8` (R193). -/
def execAddSpE8 (e : Byte) (s : State) : Result := addSpDisp e s

end Sys2Proof.Machine
end

