-- ==== Sys2Proof/Machine/Alu8.lean ====
section
/-! DEFINITION. 8-bit arithmetic and logic (42_alu8.md). First the shared operations, then one meaning per row. -/

namespace Sys2Proof.Machine

/-- Write a result to A and its flags to F. -/
def accResult (s : State) (r : Flagged) : State := (s.setReg8 .a r.res).putFlags r

/-- R160, R163 to R170: the register and `(HL)` forms. -/
def aluOpnd (op : AluOp) (o : Opnd8) (s : State) : Result :=
  withRead (readOpnd s o) fun v => (accResult s (aluFlags op s.a v s.flagC)).advance 1

/-- R160, R163 to R170: the `d8` form. -/
def aluImm (op : AluOp) (n : Byte) (s : State) : Result :=
  .next ((accResult s (aluFlags op s.a n s.flagC)).advance 2)

/-- R171. -/
def incOpnd (o : Opnd8) (s : State) : Result :=
  withRead (readOpnd s o) fun v =>
    ((writeOpnd s o (incFlags v s.flagC).res).putFlags (incFlags v s.flagC)).advance 1

/-- R172. -/
def decOpnd (o : Opnd8) (s : State) : Result :=
  withRead (readOpnd s o) fun v =>
    ((writeOpnd s o (decFlags v s.flagC).res).putFlags (decFlags v s.flagC)).advance 1

/-- R173. -/
def decimalAdjust (s : State) : Result :=
  .next ((accResult s (daaFlags s.a s.flagN s.flagH s.flagC)).advance 1)

/-- R174: Z and C are kept. -/
def complementA (s : State) : Result :=
  .next (((s.setReg8 .a (~~~ s.a)).setFlags s.flagZ true true s.flagC).advance 1)

/-- R175: Z is kept. -/
def setCarry (s : State) : Result :=
  .next ((s.setFlags s.flagZ false false true).advance 1)

/-- R176: Z is kept. -/
def complementCarry (s : State) : Result :=
  .next ((s.setFlags s.flagZ false false (!s.flagC)).advance 1)

/-! ### One meaning per row -/

/-- `INC B` (R171). -/
def execIncB (s : State) : Result := incOpnd (.reg .b) s

/-- `DEC B` (R172). -/
def execDecB (s : State) : Result := decOpnd (.reg .b) s

/-- `INC C` (R171). -/
def execIncC (s : State) : Result := incOpnd (.reg .c) s

/-- `DEC C` (R172). -/
def execDecC (s : State) : Result := decOpnd (.reg .c) s

/-- `INC D` (R171). -/
def execIncD (s : State) : Result := incOpnd (.reg .d) s

/-- `DEC D` (R172). -/
def execDecD (s : State) : Result := decOpnd (.reg .d) s

/-- `INC E` (R171). -/
def execIncE (s : State) : Result := incOpnd (.reg .e) s

/-- `DEC E` (R172). -/
def execDecE (s : State) : Result := decOpnd (.reg .e) s

/-- `INC H` (R171). -/
def execIncH (s : State) : Result := incOpnd (.reg .h) s

/-- `DEC H` (R172). -/
def execDecH (s : State) : Result := decOpnd (.reg .h) s

/-- `DAA` (R173). -/
def execDaa (s : State) : Result := decimalAdjust s

/-- `INC L` (R171). -/
def execIncL (s : State) : Result := incOpnd (.reg .l) s

/-- `DEC L` (R172). -/
def execDecL (s : State) : Result := decOpnd (.reg .l) s

/-- `CPL` (R174). -/
def execCpl (s : State) : Result := complementA s

/-- `INC (HL)` (R171). -/
def execIncMemHl (s : State) : Result := incOpnd .memHl s

/-- `DEC (HL)` (R172). -/
def execDecMemHl (s : State) : Result := decOpnd .memHl s

/-- `SCF` (R175). -/
def execScf (s : State) : Result := setCarry s

/-- `INC A` (R171). -/
def execIncA (s : State) : Result := incOpnd (.reg .a) s

/-- `DEC A` (R172). -/
def execDecA (s : State) : Result := decOpnd (.reg .a) s

/-- `CCF` (R176). -/
def execCcf (s : State) : Result := complementCarry s

/-- `ADD A,B` (R163). -/
def execAddAB (s : State) : Result := aluOpnd .add (.reg .b) s

/-- `ADD A,C` (R163). -/
def execAddAC (s : State) : Result := aluOpnd .add (.reg .c) s

/-- `ADD A,D` (R163). -/
def execAddAD (s : State) : Result := aluOpnd .add (.reg .d) s

/-- `ADD A,E` (R163). -/
def execAddAE (s : State) : Result := aluOpnd .add (.reg .e) s

/-- `ADD A,H` (R163). -/
def execAddAH (s : State) : Result := aluOpnd .add (.reg .h) s

/-- `ADD A,L` (R163). -/
def execAddAL (s : State) : Result := aluOpnd .add (.reg .l) s

/-- `ADD A,(HL)` (R163). -/
def execAddAMemHl (s : State) : Result := aluOpnd .add .memHl s

/-- `ADD A,A` (R163). -/
def execAddAA (s : State) : Result := aluOpnd .add (.reg .a) s

/-- `ADC A,B` (R164). -/
def execAdcAB (s : State) : Result := aluOpnd .adc (.reg .b) s

/-- `ADC A,C` (R164). -/
def execAdcAC (s : State) : Result := aluOpnd .adc (.reg .c) s

/-- `ADC A,D` (R164). -/
def execAdcAD (s : State) : Result := aluOpnd .adc (.reg .d) s

/-- `ADC A,E` (R164). -/
def execAdcAE (s : State) : Result := aluOpnd .adc (.reg .e) s

/-- `ADC A,H` (R164). -/
def execAdcAH (s : State) : Result := aluOpnd .adc (.reg .h) s

/-- `ADC A,L` (R164). -/
def execAdcAL (s : State) : Result := aluOpnd .adc (.reg .l) s

/-- `ADC A,(HL)` (R164). -/
def execAdcAMemHl (s : State) : Result := aluOpnd .adc .memHl s

/-- `ADC A,A` (R164). -/
def execAdcAA (s : State) : Result := aluOpnd .adc (.reg .a) s

/-- `SUB A,B` (R165). -/
def execSubAB (s : State) : Result := aluOpnd .sub (.reg .b) s

/-- `SUB A,C` (R165). -/
def execSubAC (s : State) : Result := aluOpnd .sub (.reg .c) s

/-- `SUB A,D` (R165). -/
def execSubAD (s : State) : Result := aluOpnd .sub (.reg .d) s

/-- `SUB A,E` (R165). -/
def execSubAE (s : State) : Result := aluOpnd .sub (.reg .e) s

/-- `SUB A,H` (R165). -/
def execSubAH (s : State) : Result := aluOpnd .sub (.reg .h) s

/-- `SUB A,L` (R165). -/
def execSubAL (s : State) : Result := aluOpnd .sub (.reg .l) s

/-- `SUB A,(HL)` (R165). -/
def execSubAMemHl (s : State) : Result := aluOpnd .sub .memHl s

/-- `SUB A,A` (R165). -/
def execSubAA (s : State) : Result := aluOpnd .sub (.reg .a) s

/-- `SBC A,B` (R166). -/
def execSbcAB (s : State) : Result := aluOpnd .sbc (.reg .b) s

/-- `SBC A,C` (R166). -/
def execSbcAC (s : State) : Result := aluOpnd .sbc (.reg .c) s

/-- `SBC A,D` (R166). -/
def execSbcAD (s : State) : Result := aluOpnd .sbc (.reg .d) s

/-- `SBC A,E` (R166). -/
def execSbcAE (s : State) : Result := aluOpnd .sbc (.reg .e) s

/-- `SBC A,H` (R166). -/
def execSbcAH (s : State) : Result := aluOpnd .sbc (.reg .h) s

/-- `SBC A,L` (R166). -/
def execSbcAL (s : State) : Result := aluOpnd .sbc (.reg .l) s

/-- `SBC A,(HL)` (R166). -/
def execSbcAMemHl (s : State) : Result := aluOpnd .sbc .memHl s

/-- `SBC A,A` (R166). -/
def execSbcAA (s : State) : Result := aluOpnd .sbc (.reg .a) s

/-- `AND A,B` (R167). -/
def execAndAB (s : State) : Result := aluOpnd .and (.reg .b) s

/-- `AND A,C` (R167). -/
def execAndAC (s : State) : Result := aluOpnd .and (.reg .c) s

/-- `AND A,D` (R167). -/
def execAndAD (s : State) : Result := aluOpnd .and (.reg .d) s

/-- `AND A,E` (R167). -/
def execAndAE (s : State) : Result := aluOpnd .and (.reg .e) s

/-- `AND A,H` (R167). -/
def execAndAH (s : State) : Result := aluOpnd .and (.reg .h) s

/-- `AND A,L` (R167). -/
def execAndAL (s : State) : Result := aluOpnd .and (.reg .l) s

/-- `AND A,(HL)` (R167). -/
def execAndAMemHl (s : State) : Result := aluOpnd .and .memHl s

/-- `AND A,A` (R167). -/
def execAndAA (s : State) : Result := aluOpnd .and (.reg .a) s

/-- `XOR A,B` (R168). -/
def execXorAB (s : State) : Result := aluOpnd .xor (.reg .b) s

/-- `XOR A,C` (R168). -/
def execXorAC (s : State) : Result := aluOpnd .xor (.reg .c) s

/-- `XOR A,D` (R168). -/
def execXorAD (s : State) : Result := aluOpnd .xor (.reg .d) s

/-- `XOR A,E` (R168). -/
def execXorAE (s : State) : Result := aluOpnd .xor (.reg .e) s

/-- `XOR A,H` (R168). -/
def execXorAH (s : State) : Result := aluOpnd .xor (.reg .h) s

/-- `XOR A,L` (R168). -/
def execXorAL (s : State) : Result := aluOpnd .xor (.reg .l) s

/-- `XOR A,(HL)` (R168). -/
def execXorAMemHl (s : State) : Result := aluOpnd .xor .memHl s

/-- `XOR A,A` (R168). -/
def execXorAA (s : State) : Result := aluOpnd .xor (.reg .a) s

/-- `OR A,B` (R169). -/
def execOrAB (s : State) : Result := aluOpnd .or (.reg .b) s

/-- `OR A,C` (R169). -/
def execOrAC (s : State) : Result := aluOpnd .or (.reg .c) s

/-- `OR A,D` (R169). -/
def execOrAD (s : State) : Result := aluOpnd .or (.reg .d) s

/-- `OR A,E` (R169). -/
def execOrAE (s : State) : Result := aluOpnd .or (.reg .e) s

/-- `OR A,H` (R169). -/
def execOrAH (s : State) : Result := aluOpnd .or (.reg .h) s

/-- `OR A,L` (R169). -/
def execOrAL (s : State) : Result := aluOpnd .or (.reg .l) s

/-- `OR A,(HL)` (R169). -/
def execOrAMemHl (s : State) : Result := aluOpnd .or .memHl s

/-- `OR A,A` (R169). -/
def execOrAA (s : State) : Result := aluOpnd .or (.reg .a) s

/-- `CP A,B` (R170). -/
def execCpAB (s : State) : Result := aluOpnd .cp (.reg .b) s

/-- `CP A,C` (R170). -/
def execCpAC (s : State) : Result := aluOpnd .cp (.reg .c) s

/-- `CP A,D` (R170). -/
def execCpAD (s : State) : Result := aluOpnd .cp (.reg .d) s

/-- `CP A,E` (R170). -/
def execCpAE (s : State) : Result := aluOpnd .cp (.reg .e) s

/-- `CP A,H` (R170). -/
def execCpAH (s : State) : Result := aluOpnd .cp (.reg .h) s

/-- `CP A,L` (R170). -/
def execCpAL (s : State) : Result := aluOpnd .cp (.reg .l) s

/-- `CP A,(HL)` (R170). -/
def execCpAMemHl (s : State) : Result := aluOpnd .cp .memHl s

/-- `CP A,A` (R170). -/
def execCpAA (s : State) : Result := aluOpnd .cp (.reg .a) s

/-- `ADD A,d8` (R163). -/
def execAddAD8 (n : Byte) (s : State) : Result := aluImm .add n s

/-- `ADC A,d8` (R164). -/
def execAdcAD8 (n : Byte) (s : State) : Result := aluImm .adc n s

/-- `SUB A,d8` (R165). -/
def execSubAD8 (n : Byte) (s : State) : Result := aluImm .sub n s

/-- `SBC A,d8` (R166). -/
def execSbcAD8 (n : Byte) (s : State) : Result := aluImm .sbc n s

/-- `AND A,d8` (R167). -/
def execAndAD8 (n : Byte) (s : State) : Result := aluImm .and n s

/-- `XOR A,d8` (R168). -/
def execXorAD8 (n : Byte) (s : State) : Result := aluImm .xor n s

/-- `OR A,d8` (R169). -/
def execOrAD8 (n : Byte) (s : State) : Result := aluImm .or n s

/-- `CP A,d8` (R170). -/
def execCpAD8 (n : Byte) (s : State) : Result := aluImm .cp n s

end Sys2Proof.Machine
end

