-- ==== Sys2Proof/Machine/Control.lean ====
section
/-! DEFINITION. Control transfer (45_control.md): targets are absolute, and a taken transfer suppresses the
automatic advance (R230). First the shared operations, then one meaning per row. -/

namespace Sys2Proof.Machine

/-- R231, R233: `pc <- v`. -/
def jumpTo (v : Word) (s : State) : Result := .next (s.jump v)

/-- R232. -/
def jumpCond (cc : Cond) (a : Word) (s : State) : Result :=
  .next (if s.cond cc then s.jump a else s.advance 3)

/-- The target of a relative jump: the next instruction's address plus the displacement (R234). -/
def relTarget (e : Byte) (s : State) : Word := s.nextPc 2 + sext16 e

/-- R234. -/
def jumpRel (e : Byte) (s : State) : Result := .next (s.jump (relTarget e s))

/-- R235. -/
def jumpRelCond (cc : Cond) (e : Byte) (s : State) : Result :=
  .next (if s.cond cc then s.jump (relTarget e s) else s.advance 2)

/-- Push the address after an instruction of `len` bytes and jump (R236, R241). -/
def callTo (a : Word) (len : Nat) (s : State) : State := (push16 s (s.nextPc len)).jump a

/-- R236. -/
def callAddr (a : Word) (s : State) : Result := .next (callTo a 3 s)

/-- R237: nothing is pushed where the condition is false. -/
def callCond (cc : Cond) (a : Word) (s : State) : Result :=
  .next (if s.cond cc then callTo a 3 s else s.advance 3)

/-- R238. -/
def returnOp (s : State) : Result :=
  withRead (popWord s) fun v => s.popped.jump v

/-- R239: the stack is not read where the condition is false. -/
def returnCond (cc : Cond) (s : State) : Result :=
  if s.cond cc then returnOp s else .next (s.advance 1)

/-- R240: as RET, and `ime <- 1` in the same step. -/
def returnEnable (s : State) : Result :=
  withRead (popWord s) fun v => { s.popped.jump v with ime := true }

/-- R241: the target is `8 * t`. -/
def restart (t : Fin 8) (s : State) : Result :=
  .next (callTo (BitVec.ofNat 16 (8 * t.val)) 1 s)

/-! ### One meaning per row -/

/-- `JR e8` (R234). -/
def execJrE8 (e : Byte) (s : State) : Result := jumpRel e s

/-- `JR NZ,e8` (R235). -/
def execJrNzE8 (e : Byte) (s : State) : Result := jumpRelCond .nz e s

/-- `JR Z,e8` (R235). -/
def execJrZE8 (e : Byte) (s : State) : Result := jumpRelCond .z e s

/-- `JR NC,e8` (R235). -/
def execJrNcE8 (e : Byte) (s : State) : Result := jumpRelCond .nc e s

/-- `JR C,e8` (R235). -/
def execJrCE8 (e : Byte) (s : State) : Result := jumpRelCond .c e s

/-- `RET NZ` (R239). -/
def execRetNz (s : State) : Result := returnCond .nz s

/-- `JP NZ,a16` (R232). -/
def execJpNzA16 (a : Word) (s : State) : Result := jumpCond .nz a s

/-- `JP a16` (R231). -/
def execJpA16 (a : Word) (s : State) : Result := jumpTo a s

/-- `CALL NZ,a16` (R237). -/
def execCallNzA16 (a : Word) (s : State) : Result := callCond .nz a s

/-- `RST 0x00` (R241). -/
def execRst00 (s : State) : Result := restart 0 s

/-- `RET Z` (R239). -/
def execRetZ (s : State) : Result := returnCond .z s

/-- `RET` (R238). -/
def execRet (s : State) : Result := returnOp s

/-- `JP Z,a16` (R232). -/
def execJpZA16 (a : Word) (s : State) : Result := jumpCond .z a s

/-- `CALL Z,a16` (R237). -/
def execCallZA16 (a : Word) (s : State) : Result := callCond .z a s

/-- `CALL a16` (R236). -/
def execCallA16 (a : Word) (s : State) : Result := callAddr a s

/-- `RST 0x08` (R241). -/
def execRst08 (s : State) : Result := restart 1 s

/-- `RET NC` (R239). -/
def execRetNc (s : State) : Result := returnCond .nc s

/-- `JP NC,a16` (R232). -/
def execJpNcA16 (a : Word) (s : State) : Result := jumpCond .nc a s

/-- `CALL NC,a16` (R237). -/
def execCallNcA16 (a : Word) (s : State) : Result := callCond .nc a s

/-- `RST 0x10` (R241). -/
def execRst10 (s : State) : Result := restart 2 s

/-- `RET C` (R239). -/
def execRetC (s : State) : Result := returnCond .c s

/-- `RETI` (R240). -/
def execReti (s : State) : Result := returnEnable s

/-- `JP C,a16` (R232). -/
def execJpCA16 (a : Word) (s : State) : Result := jumpCond .c a s

/-- `CALL C,a16` (R237). -/
def execCallCA16 (a : Word) (s : State) : Result := callCond .c a s

/-- `RST 0x18` (R241). -/
def execRst18 (s : State) : Result := restart 3 s

/-- `RST 0x20` (R241). -/
def execRst20 (s : State) : Result := restart 4 s

/-- `JP (HL)` (R233). -/
def execJpMemHl (s : State) : Result := jumpTo s.hl s

/-- `RST 0x28` (R241). -/
def execRst28 (s : State) : Result := restart 5 s

/-- `RST 0x30` (R241). -/
def execRst30 (s : State) : Result := restart 6 s

/-- `RST 0x38` (R241). -/
def execRst38 (s : State) : Result := restart 7 s

end Sys2Proof.Machine
end

