-- ==== Sys2Proof/Machine/Load16.lean ====
section
/-! DEFINITION. The 16-bit loads, PUSH and POP (41_load16_stack.md). First the shared operations, then one meaning
per row. -/

namespace Sys2Proof.Machine

/-- R141: `x[rr] <- imm16`. -/
def loadPairImm (p : Pair) (n : Word) (s : State) : Result :=
  .next ((s.setPair p n).advance 3)

/-- R142: `MemWrite(a, 2, SP)`. -/
def loadMemSp (a : Word) (s : State) : Result :=
  .next ((memWrite16 s a s.sp).advance 3)

/-- R143: `SP <- HL`. -/
def loadSpHl (s : State) : Result :=
  .next ((s.setPair .sp s.hl).advance 1)

/-- R144: `HL <- SP + sext_16(e)`, with H and C from the low byte of SP and the unsigned byte. -/
def loadHlSp (e : Byte) (s : State) : Result :=
  .next (((s.setPair .hl (s.sp + sext16 e)).setFlags false false (spDispH s.sp e) (spDispC s.sp e)).advance 2)

/-- The word PUSH stores: AF with the low nibble of F zero (R148), the pair otherwise (R147). -/
def pushValue (s : State) : StackPair → Word
  | .af => s.af &&& 0xFFF0#16
  | p => s.stackPair p

/-- R147, R148. -/
def pushPair (p : StackPair) (s : State) : Result :=
  .next ((push16 s (pushValue s p)).advance 1)

/-- R149, R150: the popped word, its low nibble dropped where it goes to AF. -/
def popPair (p : StackPair) (s : State) : Result :=
  withRead (popWord s) fun v => (s.popped.setStackPair p v).advance 1

/-! ### One meaning per row -/

/-- `LD BC,d16` (R141). -/
def execLdBcD16 (n : Word) (s : State) : Result := loadPairImm .bc n s

/-- `LD (a16),SP` (R142). -/
def execLdMemA16Sp (a : Word) (s : State) : Result := loadMemSp a s

/-- `LD DE,d16` (R141). -/
def execLdDeD16 (n : Word) (s : State) : Result := loadPairImm .de n s

/-- `LD HL,d16` (R141). -/
def execLdHlD16 (n : Word) (s : State) : Result := loadPairImm .hl n s

/-- `LD SP,d16` (R141). -/
def execLdSpD16 (n : Word) (s : State) : Result := loadPairImm .sp n s

/-- `POP BC` (R149). -/
def execPopBc (s : State) : Result := popPair .bc s

/-- `PUSH BC` (R147). -/
def execPushBc (s : State) : Result := pushPair .bc s

/-- `POP DE` (R149). -/
def execPopDe (s : State) : Result := popPair .de s

/-- `PUSH DE` (R147). -/
def execPushDe (s : State) : Result := pushPair .de s

/-- `POP HL` (R149). -/
def execPopHl (s : State) : Result := popPair .hl s

/-- `PUSH HL` (R147). -/
def execPushHl (s : State) : Result := pushPair .hl s

/-- `POP AF` (R150). -/
def execPopAf (s : State) : Result := popPair .af s

/-- `PUSH AF` (R148). -/
def execPushAf (s : State) : Result := pushPair .af s

/-- `LD HL,SP+e8` (R144). -/
def execLdHlSpE8 (e : Byte) (s : State) : Result := loadHlSp e s

/-- `LD SP,HL` (R143). -/
def execLdSpHl (s : State) : Result := loadSpHl s

end Sys2Proof.Machine
end

