-- ==== Sys2Proof/Machine/Load8.lean ====
section
/-! DEFINITION. The 8-bit loads (40_load8.md). First the shared operations, then one meaning per row. No load
changes a flag; a write below 0x8000 is a control write (R57). -/

namespace Sys2Proof.Machine

/-- R111: `x[dst] <- x[src]`. -/
def loadRegReg (dst src : Reg8) (s : State) : Result :=
  .next ((s.setReg8 dst (s.reg8 src)).advance 1)

/-- R112: `x[dst] <- MemRead(HL, 1)`. -/
def loadRegMem (dst : Reg8) (s : State) : Result :=
  withRead (memRead8 s s.hl) fun v => (s.setReg8 dst v).advance 1

/-- R113: `MemWrite(HL, 1, x[src])`. -/
def loadMemReg (src : Reg8) (s : State) : Result :=
  .next ((memWrite8 s s.hl (s.reg8 src)).advance 1)

/-- R114, R115: the immediate byte to a register or to the address in HL. -/
def loadImm (dst : Opnd8) (n : Byte) (s : State) : Result :=
  .next ((writeOpnd s dst n).advance 2)

/-- R116, R117, R127, R129: A from an indirect operand, then HL moves where the operand says so. -/
def loadAInd (i : Indirect) (s : State) : Result :=
  withRead (memRead8 s (indirectAddr s i)) fun v => (afterIndirect (s.setReg8 .a v) i).advance 1

/-- R118, R119, R126, R128: A to an indirect operand, then HL moves where the operand says so. -/
def loadIndA (i : Indirect) (s : State) : Result :=
  .next ((afterIndirect (memWrite8 s (indirectAddr s i) s.a) i).advance 1)

/-- R120, R121, R123: A from an address, by an instruction of `len` bytes. -/
def loadAAddr (a : Word) (len : Nat) (s : State) : Result :=
  withRead (memRead8 s a) fun v => (s.setReg8 .a v).advance len

/-- R122, R124, R125: A to an address, by an instruction of `len` bytes. -/
def loadAddrA (a : Word) (len : Nat) (s : State) : Result :=
  .next ((memWrite8 s a s.a).advance len)

/-! ### One meaning per row -/

/-- `LD (BC),A` (R118). -/
def execLdMemBcA (s : State) : Result := loadIndA .bc s

/-- `LD B,d8` (R114). -/
def execLdBD8 (n : Byte) (s : State) : Result := loadImm (.reg .b) n s

/-- `LD A,(BC)` (R116). -/
def execLdAMemBc (s : State) : Result := loadAInd .bc s

/-- `LD C,d8` (R114). -/
def execLdCD8 (n : Byte) (s : State) : Result := loadImm (.reg .c) n s

/-- `LD (DE),A` (R119). -/
def execLdMemDeA (s : State) : Result := loadIndA .de s

/-- `LD D,d8` (R114). -/
def execLdDD8 (n : Byte) (s : State) : Result := loadImm (.reg .d) n s

/-- `LD A,(DE)` (R117). -/
def execLdAMemDe (s : State) : Result := loadAInd .de s

/-- `LD E,d8` (R114). -/
def execLdED8 (n : Byte) (s : State) : Result := loadImm (.reg .e) n s

/-- `LD (HL+),A` (R126). -/
def execLdMemHlIncA (s : State) : Result := loadIndA .hlInc s

/-- `LD H,d8` (R114). -/
def execLdHD8 (n : Byte) (s : State) : Result := loadImm (.reg .h) n s

/-- `LD A,(HL+)` (R127). -/
def execLdAMemHlInc (s : State) : Result := loadAInd .hlInc s

/-- `LD L,d8` (R114). -/
def execLdLD8 (n : Byte) (s : State) : Result := loadImm (.reg .l) n s

/-- `LD (HL-),A` (R128). -/
def execLdMemHlDecA (s : State) : Result := loadIndA .hlDec s

/-- `LD (HL),d8` (R115). -/
def execLdMemHlD8 (n : Byte) (s : State) : Result := loadImm .memHl n s

/-- `LD A,(HL-)` (R129). -/
def execLdAMemHlDec (s : State) : Result := loadAInd .hlDec s

/-- `LD A,d8` (R114). -/
def execLdAD8 (n : Byte) (s : State) : Result := loadImm (.reg .a) n s

/-- `LD B,B` (R111). -/
def execLdBB (s : State) : Result := loadRegReg .b .b s

/-- `LD B,C` (R111). -/
def execLdBC (s : State) : Result := loadRegReg .b .c s

/-- `LD B,D` (R111). -/
def execLdBD (s : State) : Result := loadRegReg .b .d s

/-- `LD B,E` (R111). -/
def execLdBE (s : State) : Result := loadRegReg .b .e s

/-- `LD B,H` (R111). -/
def execLdBH (s : State) : Result := loadRegReg .b .h s

/-- `LD B,L` (R111). -/
def execLdBL (s : State) : Result := loadRegReg .b .l s

/-- `LD B,(HL)` (R112). -/
def execLdBMemHl (s : State) : Result := loadRegMem .b s

/-- `LD B,A` (R111). -/
def execLdBA (s : State) : Result := loadRegReg .b .a s

/-- `LD C,B` (R111). -/
def execLdCB (s : State) : Result := loadRegReg .c .b s

/-- `LD C,C` (R111). -/
def execLdCC (s : State) : Result := loadRegReg .c .c s

/-- `LD C,D` (R111). -/
def execLdCD (s : State) : Result := loadRegReg .c .d s

/-- `LD C,E` (R111). -/
def execLdCE (s : State) : Result := loadRegReg .c .e s

/-- `LD C,H` (R111). -/
def execLdCH (s : State) : Result := loadRegReg .c .h s

/-- `LD C,L` (R111). -/
def execLdCL (s : State) : Result := loadRegReg .c .l s

/-- `LD C,(HL)` (R112). -/
def execLdCMemHl (s : State) : Result := loadRegMem .c s

/-- `LD C,A` (R111). -/
def execLdCA (s : State) : Result := loadRegReg .c .a s

/-- `LD D,B` (R111). -/
def execLdDB (s : State) : Result := loadRegReg .d .b s

/-- `LD D,C` (R111). -/
def execLdDC (s : State) : Result := loadRegReg .d .c s

/-- `LD D,D` (R111). -/
def execLdDD (s : State) : Result := loadRegReg .d .d s

/-- `LD D,E` (R111). -/
def execLdDE (s : State) : Result := loadRegReg .d .e s

/-- `LD D,H` (R111). -/
def execLdDH (s : State) : Result := loadRegReg .d .h s

/-- `LD D,L` (R111). -/
def execLdDL (s : State) : Result := loadRegReg .d .l s

/-- `LD D,(HL)` (R112). -/
def execLdDMemHl (s : State) : Result := loadRegMem .d s

/-- `LD D,A` (R111). -/
def execLdDA (s : State) : Result := loadRegReg .d .a s

/-- `LD E,B` (R111). -/
def execLdEB (s : State) : Result := loadRegReg .e .b s

/-- `LD E,C` (R111). -/
def execLdEC (s : State) : Result := loadRegReg .e .c s

/-- `LD E,D` (R111). -/
def execLdED (s : State) : Result := loadRegReg .e .d s

/-- `LD E,E` (R111). -/
def execLdEE (s : State) : Result := loadRegReg .e .e s

/-- `LD E,H` (R111). -/
def execLdEH (s : State) : Result := loadRegReg .e .h s

/-- `LD E,L` (R111). -/
def execLdEL (s : State) : Result := loadRegReg .e .l s

/-- `LD E,(HL)` (R112). -/
def execLdEMemHl (s : State) : Result := loadRegMem .e s

/-- `LD E,A` (R111). -/
def execLdEA (s : State) : Result := loadRegReg .e .a s

/-- `LD H,B` (R111). -/
def execLdHB (s : State) : Result := loadRegReg .h .b s

/-- `LD H,C` (R111). -/
def execLdHC (s : State) : Result := loadRegReg .h .c s

/-- `LD H,D` (R111). -/
def execLdHD (s : State) : Result := loadRegReg .h .d s

/-- `LD H,E` (R111). -/
def execLdHE (s : State) : Result := loadRegReg .h .e s

/-- `LD H,H` (R111). -/
def execLdHH (s : State) : Result := loadRegReg .h .h s

/-- `LD H,L` (R111). -/
def execLdHL (s : State) : Result := loadRegReg .h .l s

/-- `LD H,(HL)` (R112). -/
def execLdHMemHl (s : State) : Result := loadRegMem .h s

/-- `LD H,A` (R111). -/
def execLdHA (s : State) : Result := loadRegReg .h .a s

/-- `LD L,B` (R111). -/
def execLdLB (s : State) : Result := loadRegReg .l .b s

/-- `LD L,C` (R111). -/
def execLdLC (s : State) : Result := loadRegReg .l .c s

/-- `LD L,D` (R111). -/
def execLdLD (s : State) : Result := loadRegReg .l .d s

/-- `LD L,E` (R111). -/
def execLdLE (s : State) : Result := loadRegReg .l .e s

/-- `LD L,H` (R111). -/
def execLdLH (s : State) : Result := loadRegReg .l .h s

/-- `LD L,L` (R111). -/
def execLdLL (s : State) : Result := loadRegReg .l .l s

/-- `LD L,(HL)` (R112). -/
def execLdLMemHl (s : State) : Result := loadRegMem .l s

/-- `LD L,A` (R111). -/
def execLdLA (s : State) : Result := loadRegReg .l .a s

/-- `LD (HL),B` (R113). -/
def execLdMemHlB (s : State) : Result := loadMemReg .b s

/-- `LD (HL),C` (R113). -/
def execLdMemHlC (s : State) : Result := loadMemReg .c s

/-- `LD (HL),D` (R113). -/
def execLdMemHlD (s : State) : Result := loadMemReg .d s

/-- `LD (HL),E` (R113). -/
def execLdMemHlE (s : State) : Result := loadMemReg .e s

/-- `LD (HL),H` (R113). -/
def execLdMemHlH (s : State) : Result := loadMemReg .h s

/-- `LD (HL),L` (R113). -/
def execLdMemHlL (s : State) : Result := loadMemReg .l s

/-- `LD (HL),A` (R113). -/
def execLdMemHlA (s : State) : Result := loadMemReg .a s

/-- `LD A,B` (R111). -/
def execLdAB (s : State) : Result := loadRegReg .a .b s

/-- `LD A,C` (R111). -/
def execLdAC (s : State) : Result := loadRegReg .a .c s

/-- `LD A,D` (R111). -/
def execLdAD (s : State) : Result := loadRegReg .a .d s

/-- `LD A,E` (R111). -/
def execLdAE (s : State) : Result := loadRegReg .a .e s

/-- `LD A,H` (R111). -/
def execLdAH (s : State) : Result := loadRegReg .a .h s

/-- `LD A,L` (R111). -/
def execLdAL (s : State) : Result := loadRegReg .a .l s

/-- `LD A,(HL)` (R112). -/
def execLdAMemHl (s : State) : Result := loadRegMem .a s

/-- `LD A,A` (R111). -/
def execLdAA (s : State) : Result := loadRegReg .a .a s

/-- `LDH (a8),A` (R122). -/
def execLdhMemA8A (n : Byte) (s : State) : Result := loadAddrA (highPage n) 2 s

/-- `LD (C),A` (R124). -/
def execLdMemCA (s : State) : Result := loadAddrA (highPage (s.reg8 .c)) 1 s

/-- `LD (a16),A` (R125). -/
def execLdMemA16A (a : Word) (s : State) : Result := loadAddrA a 3 s

/-- `LDH A,(a8)` (R121). -/
def execLdhAMemA8 (n : Byte) (s : State) : Result := loadAAddr (highPage n) 2 s

/-- `LD A,(C)` (R123). -/
def execLdAMemC (s : State) : Result := loadAAddr (highPage (s.reg8 .c)) 1 s

/-- `LD A,(a16)` (R120). -/
def execLdAMemA16 (a : Word) (s : State) : Result := loadAAddr a 3 s

end Sys2Proof.Machine
end

