-- ==== Sys2Proof/Machine/Rotate.lean ====
section
/-! DEFINITION. Rotates, shifts and bit operations (44_rotate_bit.md), and the escape row of the secondary table
(R263). First the shared operations, then one meaning per row. -/

namespace Sys2Proof.Machine

/-- R200 to R203: the accumulator forms, Z forced clear. -/
def rotAcc (op : RotOp) (s : State) : Result :=
  .next (((s.setReg8 .a (rotAccFlags op s.a s.flagC).res).putFlags (rotAccFlags op s.a s.flagC)).advance 1)

/-- R204 to R212: the secondary table's forms. -/
def rotOpnd (op : RotOp) (o : Opnd8) (s : State) : Result :=
  withRead (readOpnd s o) fun v =>
    ((writeOpnd s o (rotFlags op v s.flagC).res).putFlags (rotFlags op v s.flagC)).advance 2

/-- R213: the operand is read only, C is kept. -/
def bitOpnd (n : Fin 8) (o : Opnd8) (s : State) : Result :=
  withRead (readOpnd s o) fun v => (s.setFlags (!v.getLsbD n.val) false true s.flagC).advance 2

/-- `v & ~(1 << n)` (R214). -/
def clearBit (n : Fin 8) (v : Byte) : Byte := v &&& ~~~ (1#8 <<< n.val)

/-- `v | (1 << n)` (R215). -/
def raiseBit (n : Fin 8) (v : Byte) : Byte := v ||| 1#8 <<< n.val

/-- R214: no flag changes. -/
def resOpnd (n : Fin 8) (o : Opnd8) (s : State) : Result :=
  withRead (readOpnd s o) fun v => (writeOpnd s o (clearBit n v)).advance 2

/-- R215: no flag changes. -/
def setOpnd (n : Fin 8) (o : Opnd8) (s : State) : Result :=
  withRead (readOpnd s o) fun v => (writeOpnd s o (raiseBit n v)).advance 2

/-- The operand with index `k` (R85). -/
def opndOfIndex : Nat → Opnd8
  | 0 => .reg .b | 1 => .reg .c | 2 => .reg .d | 3 => .reg .e | 4 => .reg .h | 5 => .reg .l | 6 => .memHl
  | _ => .reg .a

/-- The rotate or shift with field `y = k` (R94). -/
def rotOfIndex : Nat → RotOp
  | 0 => .rlc | 1 => .rrc | 2 => .rl | 3 => .rr | 4 => .sla | 5 => .sra | 6 => .swap | _ => .srl

/-- R263: the secondary table's instruction that the second byte selects, by its fields `x`, `y`, `z` (R94). -/
def runEscape (o : Byte) (s : State) : Result :=
  match o.toNat / 64 with
  | 0 => rotOpnd (rotOfIndex (o.toNat / 8 % 8)) (opndOfIndex (o.toNat % 8)) s
  | 1 => bitOpnd (Fin.ofNat 8 (o.toNat / 8)) (opndOfIndex (o.toNat % 8)) s
  | 2 => resOpnd (Fin.ofNat 8 (o.toNat / 8)) (opndOfIndex (o.toNat % 8)) s
  | _ => setOpnd (Fin.ofNat 8 (o.toNat / 8)) (opndOfIndex (o.toNat % 8)) s

/-! ### One meaning per row -/

/-- `RLCA` (R200). -/
def execRlca (s : State) : Result := rotAcc .rlc s

/-- `RRCA` (R202). -/
def execRrca (s : State) : Result := rotAcc .rrc s

/-- `RLA` (R201). -/
def execRla (s : State) : Result := rotAcc .rl s

/-- `RRA` (R203). -/
def execRra (s : State) : Result := rotAcc .rr s

/-- `PREFIX CB` (R263). -/
def execPrefixCb (o : Byte) (s : State) : Result := runEscape o s

/-- `RLC B` (R205). -/
def execCbRlcB (s : State) : Result := rotOpnd .rlc (.reg .b) s

/-- `RLC C` (R205). -/
def execCbRlcC (s : State) : Result := rotOpnd .rlc (.reg .c) s

/-- `RLC D` (R205). -/
def execCbRlcD (s : State) : Result := rotOpnd .rlc (.reg .d) s

/-- `RLC E` (R205). -/
def execCbRlcE (s : State) : Result := rotOpnd .rlc (.reg .e) s

/-- `RLC H` (R205). -/
def execCbRlcH (s : State) : Result := rotOpnd .rlc (.reg .h) s

/-- `RLC L` (R205). -/
def execCbRlcL (s : State) : Result := rotOpnd .rlc (.reg .l) s

/-- `RLC (HL)` (R205). -/
def execCbRlcMemHl (s : State) : Result := rotOpnd .rlc .memHl s

/-- `RLC A` (R205). -/
def execCbRlcA (s : State) : Result := rotOpnd .rlc (.reg .a) s

/-- `RRC B` (R206). -/
def execCbRrcB (s : State) : Result := rotOpnd .rrc (.reg .b) s

/-- `RRC C` (R206). -/
def execCbRrcC (s : State) : Result := rotOpnd .rrc (.reg .c) s

/-- `RRC D` (R206). -/
def execCbRrcD (s : State) : Result := rotOpnd .rrc (.reg .d) s

/-- `RRC E` (R206). -/
def execCbRrcE (s : State) : Result := rotOpnd .rrc (.reg .e) s

/-- `RRC H` (R206). -/
def execCbRrcH (s : State) : Result := rotOpnd .rrc (.reg .h) s

/-- `RRC L` (R206). -/
def execCbRrcL (s : State) : Result := rotOpnd .rrc (.reg .l) s

/-- `RRC (HL)` (R206). -/
def execCbRrcMemHl (s : State) : Result := rotOpnd .rrc .memHl s

/-- `RRC A` (R206). -/
def execCbRrcA (s : State) : Result := rotOpnd .rrc (.reg .a) s

/-- `RL B` (R207). -/
def execCbRlB (s : State) : Result := rotOpnd .rl (.reg .b) s

/-- `RL C` (R207). -/
def execCbRlC (s : State) : Result := rotOpnd .rl (.reg .c) s

/-- `RL D` (R207). -/
def execCbRlD (s : State) : Result := rotOpnd .rl (.reg .d) s

/-- `RL E` (R207). -/
def execCbRlE (s : State) : Result := rotOpnd .rl (.reg .e) s

/-- `RL H` (R207). -/
def execCbRlH (s : State) : Result := rotOpnd .rl (.reg .h) s

/-- `RL L` (R207). -/
def execCbRlL (s : State) : Result := rotOpnd .rl (.reg .l) s

/-- `RL (HL)` (R207). -/
def execCbRlMemHl (s : State) : Result := rotOpnd .rl .memHl s

/-- `RL A` (R207). -/
def execCbRlA (s : State) : Result := rotOpnd .rl (.reg .a) s

/-- `RR B` (R208). -/
def execCbRrB (s : State) : Result := rotOpnd .rr (.reg .b) s

/-- `RR C` (R208). -/
def execCbRrC (s : State) : Result := rotOpnd .rr (.reg .c) s

/-- `RR D` (R208). -/
def execCbRrD (s : State) : Result := rotOpnd .rr (.reg .d) s

/-- `RR E` (R208). -/
def execCbRrE (s : State) : Result := rotOpnd .rr (.reg .e) s

/-- `RR H` (R208). -/
def execCbRrH (s : State) : Result := rotOpnd .rr (.reg .h) s

/-- `RR L` (R208). -/
def execCbRrL (s : State) : Result := rotOpnd .rr (.reg .l) s

/-- `RR (HL)` (R208). -/
def execCbRrMemHl (s : State) : Result := rotOpnd .rr .memHl s

/-- `RR A` (R208). -/
def execCbRrA (s : State) : Result := rotOpnd .rr (.reg .a) s

/-- `SLA B` (R209). -/
def execCbSlaB (s : State) : Result := rotOpnd .sla (.reg .b) s

/-- `SLA C` (R209). -/
def execCbSlaC (s : State) : Result := rotOpnd .sla (.reg .c) s

/-- `SLA D` (R209). -/
def execCbSlaD (s : State) : Result := rotOpnd .sla (.reg .d) s

/-- `SLA E` (R209). -/
def execCbSlaE (s : State) : Result := rotOpnd .sla (.reg .e) s

/-- `SLA H` (R209). -/
def execCbSlaH (s : State) : Result := rotOpnd .sla (.reg .h) s

/-- `SLA L` (R209). -/
def execCbSlaL (s : State) : Result := rotOpnd .sla (.reg .l) s

/-- `SLA (HL)` (R209). -/
def execCbSlaMemHl (s : State) : Result := rotOpnd .sla .memHl s

/-- `SLA A` (R209). -/
def execCbSlaA (s : State) : Result := rotOpnd .sla (.reg .a) s

/-- `SRA B` (R210). -/
def execCbSraB (s : State) : Result := rotOpnd .sra (.reg .b) s

/-- `SRA C` (R210). -/
def execCbSraC (s : State) : Result := rotOpnd .sra (.reg .c) s

/-- `SRA D` (R210). -/
def execCbSraD (s : State) : Result := rotOpnd .sra (.reg .d) s

/-- `SRA E` (R210). -/
def execCbSraE (s : State) : Result := rotOpnd .sra (.reg .e) s

/-- `SRA H` (R210). -/
def execCbSraH (s : State) : Result := rotOpnd .sra (.reg .h) s

/-- `SRA L` (R210). -/
def execCbSraL (s : State) : Result := rotOpnd .sra (.reg .l) s

/-- `SRA (HL)` (R210). -/
def execCbSraMemHl (s : State) : Result := rotOpnd .sra .memHl s

/-- `SRA A` (R210). -/
def execCbSraA (s : State) : Result := rotOpnd .sra (.reg .a) s

/-- `SWAP B` (R211). -/
def execCbSwapB (s : State) : Result := rotOpnd .swap (.reg .b) s

/-- `SWAP C` (R211). -/
def execCbSwapC (s : State) : Result := rotOpnd .swap (.reg .c) s

/-- `SWAP D` (R211). -/
def execCbSwapD (s : State) : Result := rotOpnd .swap (.reg .d) s

/-- `SWAP E` (R211). -/
def execCbSwapE (s : State) : Result := rotOpnd .swap (.reg .e) s

/-- `SWAP H` (R211). -/
def execCbSwapH (s : State) : Result := rotOpnd .swap (.reg .h) s

/-- `SWAP L` (R211). -/
def execCbSwapL (s : State) : Result := rotOpnd .swap (.reg .l) s

/-- `SWAP (HL)` (R211). -/
def execCbSwapMemHl (s : State) : Result := rotOpnd .swap .memHl s

/-- `SWAP A` (R211). -/
def execCbSwapA (s : State) : Result := rotOpnd .swap (.reg .a) s

/-- `SRL B` (R212). -/
def execCbSrlB (s : State) : Result := rotOpnd .srl (.reg .b) s

/-- `SRL C` (R212). -/
def execCbSrlC (s : State) : Result := rotOpnd .srl (.reg .c) s

/-- `SRL D` (R212). -/
def execCbSrlD (s : State) : Result := rotOpnd .srl (.reg .d) s

/-- `SRL E` (R212). -/
def execCbSrlE (s : State) : Result := rotOpnd .srl (.reg .e) s

/-- `SRL H` (R212). -/
def execCbSrlH (s : State) : Result := rotOpnd .srl (.reg .h) s

/-- `SRL L` (R212). -/
def execCbSrlL (s : State) : Result := rotOpnd .srl (.reg .l) s

/-- `SRL (HL)` (R212). -/
def execCbSrlMemHl (s : State) : Result := rotOpnd .srl .memHl s

/-- `SRL A` (R212). -/
def execCbSrlA (s : State) : Result := rotOpnd .srl (.reg .a) s

/-- `BIT 0,B` (R213). -/
def execCbBit0B (s : State) : Result := bitOpnd 0 (.reg .b) s

/-- `BIT 0,C` (R213). -/
def execCbBit0C (s : State) : Result := bitOpnd 0 (.reg .c) s

/-- `BIT 0,D` (R213). -/
def execCbBit0D (s : State) : Result := bitOpnd 0 (.reg .d) s

/-- `BIT 0,E` (R213). -/
def execCbBit0E (s : State) : Result := bitOpnd 0 (.reg .e) s

/-- `BIT 0,H` (R213). -/
def execCbBit0H (s : State) : Result := bitOpnd 0 (.reg .h) s

/-- `BIT 0,L` (R213). -/
def execCbBit0L (s : State) : Result := bitOpnd 0 (.reg .l) s

/-- `BIT 0,(HL)` (R213). -/
def execCbBit0MemHl (s : State) : Result := bitOpnd 0 .memHl s

/-- `BIT 0,A` (R213). -/
def execCbBit0A (s : State) : Result := bitOpnd 0 (.reg .a) s

/-- `BIT 1,B` (R213). -/
def execCbBit1B (s : State) : Result := bitOpnd 1 (.reg .b) s

/-- `BIT 1,C` (R213). -/
def execCbBit1C (s : State) : Result := bitOpnd 1 (.reg .c) s

/-- `BIT 1,D` (R213). -/
def execCbBit1D (s : State) : Result := bitOpnd 1 (.reg .d) s

/-- `BIT 1,E` (R213). -/
def execCbBit1E (s : State) : Result := bitOpnd 1 (.reg .e) s

/-- `BIT 1,H` (R213). -/
def execCbBit1H (s : State) : Result := bitOpnd 1 (.reg .h) s

/-- `BIT 1,L` (R213). -/
def execCbBit1L (s : State) : Result := bitOpnd 1 (.reg .l) s

/-- `BIT 1,(HL)` (R213). -/
def execCbBit1MemHl (s : State) : Result := bitOpnd 1 .memHl s

/-- `BIT 1,A` (R213). -/
def execCbBit1A (s : State) : Result := bitOpnd 1 (.reg .a) s

/-- `BIT 2,B` (R213). -/
def execCbBit2B (s : State) : Result := bitOpnd 2 (.reg .b) s

/-- `BIT 2,C` (R213). -/
def execCbBit2C (s : State) : Result := bitOpnd 2 (.reg .c) s

/-- `BIT 2,D` (R213). -/
def execCbBit2D (s : State) : Result := bitOpnd 2 (.reg .d) s

/-- `BIT 2,E` (R213). -/
def execCbBit2E (s : State) : Result := bitOpnd 2 (.reg .e) s

/-- `BIT 2,H` (R213). -/
def execCbBit2H (s : State) : Result := bitOpnd 2 (.reg .h) s

/-- `BIT 2,L` (R213). -/
def execCbBit2L (s : State) : Result := bitOpnd 2 (.reg .l) s

/-- `BIT 2,(HL)` (R213). -/
def execCbBit2MemHl (s : State) : Result := bitOpnd 2 .memHl s

/-- `BIT 2,A` (R213). -/
def execCbBit2A (s : State) : Result := bitOpnd 2 (.reg .a) s

/-- `BIT 3,B` (R213). -/
def execCbBit3B (s : State) : Result := bitOpnd 3 (.reg .b) s

/-- `BIT 3,C` (R213). -/
def execCbBit3C (s : State) : Result := bitOpnd 3 (.reg .c) s

/-- `BIT 3,D` (R213). -/
def execCbBit3D (s : State) : Result := bitOpnd 3 (.reg .d) s

/-- `BIT 3,E` (R213). -/
def execCbBit3E (s : State) : Result := bitOpnd 3 (.reg .e) s

/-- `BIT 3,H` (R213). -/
def execCbBit3H (s : State) : Result := bitOpnd 3 (.reg .h) s

/-- `BIT 3,L` (R213). -/
def execCbBit3L (s : State) : Result := bitOpnd 3 (.reg .l) s

/-- `BIT 3,(HL)` (R213). -/
def execCbBit3MemHl (s : State) : Result := bitOpnd 3 .memHl s

/-- `BIT 3,A` (R213). -/
def execCbBit3A (s : State) : Result := bitOpnd 3 (.reg .a) s

/-- `BIT 4,B` (R213). -/
def execCbBit4B (s : State) : Result := bitOpnd 4 (.reg .b) s

/-- `BIT 4,C` (R213). -/
def execCbBit4C (s : State) : Result := bitOpnd 4 (.reg .c) s

/-- `BIT 4,D` (R213). -/
def execCbBit4D (s : State) : Result := bitOpnd 4 (.reg .d) s

/-- `BIT 4,E` (R213). -/
def execCbBit4E (s : State) : Result := bitOpnd 4 (.reg .e) s

/-- `BIT 4,H` (R213). -/
def execCbBit4H (s : State) : Result := bitOpnd 4 (.reg .h) s

/-- `BIT 4,L` (R213). -/
def execCbBit4L (s : State) : Result := bitOpnd 4 (.reg .l) s

/-- `BIT 4,(HL)` (R213). -/
def execCbBit4MemHl (s : State) : Result := bitOpnd 4 .memHl s

/-- `BIT 4,A` (R213). -/
def execCbBit4A (s : State) : Result := bitOpnd 4 (.reg .a) s

/-- `BIT 5,B` (R213). -/
def execCbBit5B (s : State) : Result := bitOpnd 5 (.reg .b) s

/-- `BIT 5,C` (R213). -/
def execCbBit5C (s : State) : Result := bitOpnd 5 (.reg .c) s

/-- `BIT 5,D` (R213). -/
def execCbBit5D (s : State) : Result := bitOpnd 5 (.reg .d) s

/-- `BIT 5,E` (R213). -/
def execCbBit5E (s : State) : Result := bitOpnd 5 (.reg .e) s

/-- `BIT 5,H` (R213). -/
def execCbBit5H (s : State) : Result := bitOpnd 5 (.reg .h) s

/-- `BIT 5,L` (R213). -/
def execCbBit5L (s : State) : Result := bitOpnd 5 (.reg .l) s

/-- `BIT 5,(HL)` (R213). -/
def execCbBit5MemHl (s : State) : Result := bitOpnd 5 .memHl s

/-- `BIT 5,A` (R213). -/
def execCbBit5A (s : State) : Result := bitOpnd 5 (.reg .a) s

/-- `BIT 6,B` (R213). -/
def execCbBit6B (s : State) : Result := bitOpnd 6 (.reg .b) s

/-- `BIT 6,C` (R213). -/
def execCbBit6C (s : State) : Result := bitOpnd 6 (.reg .c) s

/-- `BIT 6,D` (R213). -/
def execCbBit6D (s : State) : Result := bitOpnd 6 (.reg .d) s

/-- `BIT 6,E` (R213). -/
def execCbBit6E (s : State) : Result := bitOpnd 6 (.reg .e) s

/-- `BIT 6,H` (R213). -/
def execCbBit6H (s : State) : Result := bitOpnd 6 (.reg .h) s

/-- `BIT 6,L` (R213). -/
def execCbBit6L (s : State) : Result := bitOpnd 6 (.reg .l) s

/-- `BIT 6,(HL)` (R213). -/
def execCbBit6MemHl (s : State) : Result := bitOpnd 6 .memHl s

/-- `BIT 6,A` (R213). -/
def execCbBit6A (s : State) : Result := bitOpnd 6 (.reg .a) s

/-- `BIT 7,B` (R213). -/
def execCbBit7B (s : State) : Result := bitOpnd 7 (.reg .b) s

/-- `BIT 7,C` (R213). -/
def execCbBit7C (s : State) : Result := bitOpnd 7 (.reg .c) s

/-- `BIT 7,D` (R213). -/
def execCbBit7D (s : State) : Result := bitOpnd 7 (.reg .d) s

/-- `BIT 7,E` (R213). -/
def execCbBit7E (s : State) : Result := bitOpnd 7 (.reg .e) s

/-- `BIT 7,H` (R213). -/
def execCbBit7H (s : State) : Result := bitOpnd 7 (.reg .h) s

/-- `BIT 7,L` (R213). -/
def execCbBit7L (s : State) : Result := bitOpnd 7 (.reg .l) s

/-- `BIT 7,(HL)` (R213). -/
def execCbBit7MemHl (s : State) : Result := bitOpnd 7 .memHl s

/-- `BIT 7,A` (R213). -/
def execCbBit7A (s : State) : Result := bitOpnd 7 (.reg .a) s

/-- `RES 0,B` (R214). -/
def execCbRes0B (s : State) : Result := resOpnd 0 (.reg .b) s

/-- `RES 0,C` (R214). -/
def execCbRes0C (s : State) : Result := resOpnd 0 (.reg .c) s

/-- `RES 0,D` (R214). -/
def execCbRes0D (s : State) : Result := resOpnd 0 (.reg .d) s

/-- `RES 0,E` (R214). -/
def execCbRes0E (s : State) : Result := resOpnd 0 (.reg .e) s

/-- `RES 0,H` (R214). -/
def execCbRes0H (s : State) : Result := resOpnd 0 (.reg .h) s

/-- `RES 0,L` (R214). -/
def execCbRes0L (s : State) : Result := resOpnd 0 (.reg .l) s

/-- `RES 0,(HL)` (R214). -/
def execCbRes0MemHl (s : State) : Result := resOpnd 0 .memHl s

/-- `RES 0,A` (R214). -/
def execCbRes0A (s : State) : Result := resOpnd 0 (.reg .a) s

/-- `RES 1,B` (R214). -/
def execCbRes1B (s : State) : Result := resOpnd 1 (.reg .b) s

/-- `RES 1,C` (R214). -/
def execCbRes1C (s : State) : Result := resOpnd 1 (.reg .c) s

/-- `RES 1,D` (R214). -/
def execCbRes1D (s : State) : Result := resOpnd 1 (.reg .d) s

/-- `RES 1,E` (R214). -/
def execCbRes1E (s : State) : Result := resOpnd 1 (.reg .e) s

/-- `RES 1,H` (R214). -/
def execCbRes1H (s : State) : Result := resOpnd 1 (.reg .h) s

/-- `RES 1,L` (R214). -/
def execCbRes1L (s : State) : Result := resOpnd 1 (.reg .l) s

/-- `RES 1,(HL)` (R214). -/
def execCbRes1MemHl (s : State) : Result := resOpnd 1 .memHl s

/-- `RES 1,A` (R214). -/
def execCbRes1A (s : State) : Result := resOpnd 1 (.reg .a) s

/-- `RES 2,B` (R214). -/
def execCbRes2B (s : State) : Result := resOpnd 2 (.reg .b) s

/-- `RES 2,C` (R214). -/
def execCbRes2C (s : State) : Result := resOpnd 2 (.reg .c) s

/-- `RES 2,D` (R214). -/
def execCbRes2D (s : State) : Result := resOpnd 2 (.reg .d) s

/-- `RES 2,E` (R214). -/
def execCbRes2E (s : State) : Result := resOpnd 2 (.reg .e) s

/-- `RES 2,H` (R214). -/
def execCbRes2H (s : State) : Result := resOpnd 2 (.reg .h) s

/-- `RES 2,L` (R214). -/
def execCbRes2L (s : State) : Result := resOpnd 2 (.reg .l) s

/-- `RES 2,(HL)` (R214). -/
def execCbRes2MemHl (s : State) : Result := resOpnd 2 .memHl s

/-- `RES 2,A` (R214). -/
def execCbRes2A (s : State) : Result := resOpnd 2 (.reg .a) s

/-- `RES 3,B` (R214). -/
def execCbRes3B (s : State) : Result := resOpnd 3 (.reg .b) s

/-- `RES 3,C` (R214). -/
def execCbRes3C (s : State) : Result := resOpnd 3 (.reg .c) s

/-- `RES 3,D` (R214). -/
def execCbRes3D (s : State) : Result := resOpnd 3 (.reg .d) s

/-- `RES 3,E` (R214). -/
def execCbRes3E (s : State) : Result := resOpnd 3 (.reg .e) s

/-- `RES 3,H` (R214). -/
def execCbRes3H (s : State) : Result := resOpnd 3 (.reg .h) s

/-- `RES 3,L` (R214). -/
def execCbRes3L (s : State) : Result := resOpnd 3 (.reg .l) s

/-- `RES 3,(HL)` (R214). -/
def execCbRes3MemHl (s : State) : Result := resOpnd 3 .memHl s

/-- `RES 3,A` (R214). -/
def execCbRes3A (s : State) : Result := resOpnd 3 (.reg .a) s

/-- `RES 4,B` (R214). -/
def execCbRes4B (s : State) : Result := resOpnd 4 (.reg .b) s

/-- `RES 4,C` (R214). -/
def execCbRes4C (s : State) : Result := resOpnd 4 (.reg .c) s

/-- `RES 4,D` (R214). -/
def execCbRes4D (s : State) : Result := resOpnd 4 (.reg .d) s

/-- `RES 4,E` (R214). -/
def execCbRes4E (s : State) : Result := resOpnd 4 (.reg .e) s

/-- `RES 4,H` (R214). -/
def execCbRes4H (s : State) : Result := resOpnd 4 (.reg .h) s

/-- `RES 4,L` (R214). -/
def execCbRes4L (s : State) : Result := resOpnd 4 (.reg .l) s

/-- `RES 4,(HL)` (R214). -/
def execCbRes4MemHl (s : State) : Result := resOpnd 4 .memHl s

/-- `RES 4,A` (R214). -/
def execCbRes4A (s : State) : Result := resOpnd 4 (.reg .a) s

/-- `RES 5,B` (R214). -/
def execCbRes5B (s : State) : Result := resOpnd 5 (.reg .b) s

/-- `RES 5,C` (R214). -/
def execCbRes5C (s : State) : Result := resOpnd 5 (.reg .c) s

/-- `RES 5,D` (R214). -/
def execCbRes5D (s : State) : Result := resOpnd 5 (.reg .d) s

/-- `RES 5,E` (R214). -/
def execCbRes5E (s : State) : Result := resOpnd 5 (.reg .e) s

/-- `RES 5,H` (R214). -/
def execCbRes5H (s : State) : Result := resOpnd 5 (.reg .h) s

/-- `RES 5,L` (R214). -/
def execCbRes5L (s : State) : Result := resOpnd 5 (.reg .l) s

/-- `RES 5,(HL)` (R214). -/
def execCbRes5MemHl (s : State) : Result := resOpnd 5 .memHl s

/-- `RES 5,A` (R214). -/
def execCbRes5A (s : State) : Result := resOpnd 5 (.reg .a) s

/-- `RES 6,B` (R214). -/
def execCbRes6B (s : State) : Result := resOpnd 6 (.reg .b) s

/-- `RES 6,C` (R214). -/
def execCbRes6C (s : State) : Result := resOpnd 6 (.reg .c) s

/-- `RES 6,D` (R214). -/
def execCbRes6D (s : State) : Result := resOpnd 6 (.reg .d) s

/-- `RES 6,E` (R214). -/
def execCbRes6E (s : State) : Result := resOpnd 6 (.reg .e) s

/-- `RES 6,H` (R214). -/
def execCbRes6H (s : State) : Result := resOpnd 6 (.reg .h) s

/-- `RES 6,L` (R214). -/
def execCbRes6L (s : State) : Result := resOpnd 6 (.reg .l) s

/-- `RES 6,(HL)` (R214). -/
def execCbRes6MemHl (s : State) : Result := resOpnd 6 .memHl s

/-- `RES 6,A` (R214). -/
def execCbRes6A (s : State) : Result := resOpnd 6 (.reg .a) s

/-- `RES 7,B` (R214). -/
def execCbRes7B (s : State) : Result := resOpnd 7 (.reg .b) s

/-- `RES 7,C` (R214). -/
def execCbRes7C (s : State) : Result := resOpnd 7 (.reg .c) s

/-- `RES 7,D` (R214). -/
def execCbRes7D (s : State) : Result := resOpnd 7 (.reg .d) s

/-- `RES 7,E` (R214). -/
def execCbRes7E (s : State) : Result := resOpnd 7 (.reg .e) s

/-- `RES 7,H` (R214). -/
def execCbRes7H (s : State) : Result := resOpnd 7 (.reg .h) s

/-- `RES 7,L` (R214). -/
def execCbRes7L (s : State) : Result := resOpnd 7 (.reg .l) s

/-- `RES 7,(HL)` (R214). -/
def execCbRes7MemHl (s : State) : Result := resOpnd 7 .memHl s

/-- `RES 7,A` (R214). -/
def execCbRes7A (s : State) : Result := resOpnd 7 (.reg .a) s

/-- `SET 0,B` (R215). -/
def execCbSet0B (s : State) : Result := setOpnd 0 (.reg .b) s

/-- `SET 0,C` (R215). -/
def execCbSet0C (s : State) : Result := setOpnd 0 (.reg .c) s

/-- `SET 0,D` (R215). -/
def execCbSet0D (s : State) : Result := setOpnd 0 (.reg .d) s

/-- `SET 0,E` (R215). -/
def execCbSet0E (s : State) : Result := setOpnd 0 (.reg .e) s

/-- `SET 0,H` (R215). -/
def execCbSet0H (s : State) : Result := setOpnd 0 (.reg .h) s

/-- `SET 0,L` (R215). -/
def execCbSet0L (s : State) : Result := setOpnd 0 (.reg .l) s

/-- `SET 0,(HL)` (R215). -/
def execCbSet0MemHl (s : State) : Result := setOpnd 0 .memHl s

/-- `SET 0,A` (R215). -/
def execCbSet0A (s : State) : Result := setOpnd 0 (.reg .a) s

/-- `SET 1,B` (R215). -/
def execCbSet1B (s : State) : Result := setOpnd 1 (.reg .b) s

/-- `SET 1,C` (R215). -/
def execCbSet1C (s : State) : Result := setOpnd 1 (.reg .c) s

/-- `SET 1,D` (R215). -/
def execCbSet1D (s : State) : Result := setOpnd 1 (.reg .d) s

/-- `SET 1,E` (R215). -/
def execCbSet1E (s : State) : Result := setOpnd 1 (.reg .e) s

/-- `SET 1,H` (R215). -/
def execCbSet1H (s : State) : Result := setOpnd 1 (.reg .h) s

/-- `SET 1,L` (R215). -/
def execCbSet1L (s : State) : Result := setOpnd 1 (.reg .l) s

/-- `SET 1,(HL)` (R215). -/
def execCbSet1MemHl (s : State) : Result := setOpnd 1 .memHl s

/-- `SET 1,A` (R215). -/
def execCbSet1A (s : State) : Result := setOpnd 1 (.reg .a) s

/-- `SET 2,B` (R215). -/
def execCbSet2B (s : State) : Result := setOpnd 2 (.reg .b) s

/-- `SET 2,C` (R215). -/
def execCbSet2C (s : State) : Result := setOpnd 2 (.reg .c) s

/-- `SET 2,D` (R215). -/
def execCbSet2D (s : State) : Result := setOpnd 2 (.reg .d) s

/-- `SET 2,E` (R215). -/
def execCbSet2E (s : State) : Result := setOpnd 2 (.reg .e) s

/-- `SET 2,H` (R215). -/
def execCbSet2H (s : State) : Result := setOpnd 2 (.reg .h) s

/-- `SET 2,L` (R215). -/
def execCbSet2L (s : State) : Result := setOpnd 2 (.reg .l) s

/-- `SET 2,(HL)` (R215). -/
def execCbSet2MemHl (s : State) : Result := setOpnd 2 .memHl s

/-- `SET 2,A` (R215). -/
def execCbSet2A (s : State) : Result := setOpnd 2 (.reg .a) s

/-- `SET 3,B` (R215). -/
def execCbSet3B (s : State) : Result := setOpnd 3 (.reg .b) s

/-- `SET 3,C` (R215). -/
def execCbSet3C (s : State) : Result := setOpnd 3 (.reg .c) s

/-- `SET 3,D` (R215). -/
def execCbSet3D (s : State) : Result := setOpnd 3 (.reg .d) s

/-- `SET 3,E` (R215). -/
def execCbSet3E (s : State) : Result := setOpnd 3 (.reg .e) s

/-- `SET 3,H` (R215). -/
def execCbSet3H (s : State) : Result := setOpnd 3 (.reg .h) s

/-- `SET 3,L` (R215). -/
def execCbSet3L (s : State) : Result := setOpnd 3 (.reg .l) s

/-- `SET 3,(HL)` (R215). -/
def execCbSet3MemHl (s : State) : Result := setOpnd 3 .memHl s

/-- `SET 3,A` (R215). -/
def execCbSet3A (s : State) : Result := setOpnd 3 (.reg .a) s

/-- `SET 4,B` (R215). -/
def execCbSet4B (s : State) : Result := setOpnd 4 (.reg .b) s

/-- `SET 4,C` (R215). -/
def execCbSet4C (s : State) : Result := setOpnd 4 (.reg .c) s

/-- `SET 4,D` (R215). -/
def execCbSet4D (s : State) : Result := setOpnd 4 (.reg .d) s

/-- `SET 4,E` (R215). -/
def execCbSet4E (s : State) : Result := setOpnd 4 (.reg .e) s

/-- `SET 4,H` (R215). -/
def execCbSet4H (s : State) : Result := setOpnd 4 (.reg .h) s

/-- `SET 4,L` (R215). -/
def execCbSet4L (s : State) : Result := setOpnd 4 (.reg .l) s

/-- `SET 4,(HL)` (R215). -/
def execCbSet4MemHl (s : State) : Result := setOpnd 4 .memHl s

/-- `SET 4,A` (R215). -/
def execCbSet4A (s : State) : Result := setOpnd 4 (.reg .a) s

/-- `SET 5,B` (R215). -/
def execCbSet5B (s : State) : Result := setOpnd 5 (.reg .b) s

/-- `SET 5,C` (R215). -/
def execCbSet5C (s : State) : Result := setOpnd 5 (.reg .c) s

/-- `SET 5,D` (R215). -/
def execCbSet5D (s : State) : Result := setOpnd 5 (.reg .d) s

/-- `SET 5,E` (R215). -/
def execCbSet5E (s : State) : Result := setOpnd 5 (.reg .e) s

/-- `SET 5,H` (R215). -/
def execCbSet5H (s : State) : Result := setOpnd 5 (.reg .h) s

/-- `SET 5,L` (R215). -/
def execCbSet5L (s : State) : Result := setOpnd 5 (.reg .l) s

/-- `SET 5,(HL)` (R215). -/
def execCbSet5MemHl (s : State) : Result := setOpnd 5 .memHl s

/-- `SET 5,A` (R215). -/
def execCbSet5A (s : State) : Result := setOpnd 5 (.reg .a) s

/-- `SET 6,B` (R215). -/
def execCbSet6B (s : State) : Result := setOpnd 6 (.reg .b) s

/-- `SET 6,C` (R215). -/
def execCbSet6C (s : State) : Result := setOpnd 6 (.reg .c) s

/-- `SET 6,D` (R215). -/
def execCbSet6D (s : State) : Result := setOpnd 6 (.reg .d) s

/-- `SET 6,E` (R215). -/
def execCbSet6E (s : State) : Result := setOpnd 6 (.reg .e) s

/-- `SET 6,H` (R215). -/
def execCbSet6H (s : State) : Result := setOpnd 6 (.reg .h) s

/-- `SET 6,L` (R215). -/
def execCbSet6L (s : State) : Result := setOpnd 6 (.reg .l) s

/-- `SET 6,(HL)` (R215). -/
def execCbSet6MemHl (s : State) : Result := setOpnd 6 .memHl s

/-- `SET 6,A` (R215). -/
def execCbSet6A (s : State) : Result := setOpnd 6 (.reg .a) s

/-- `SET 7,B` (R215). -/
def execCbSet7B (s : State) : Result := setOpnd 7 (.reg .b) s

/-- `SET 7,C` (R215). -/
def execCbSet7C (s : State) : Result := setOpnd 7 (.reg .c) s

/-- `SET 7,D` (R215). -/
def execCbSet7D (s : State) : Result := setOpnd 7 (.reg .d) s

/-- `SET 7,E` (R215). -/
def execCbSet7E (s : State) : Result := setOpnd 7 (.reg .e) s

/-- `SET 7,H` (R215). -/
def execCbSet7H (s : State) : Result := setOpnd 7 (.reg .h) s

/-- `SET 7,L` (R215). -/
def execCbSet7L (s : State) : Result := setOpnd 7 (.reg .l) s

/-- `SET 7,(HL)` (R215). -/
def execCbSet7MemHl (s : State) : Result := setOpnd 7 .memHl s

/-- `SET 7,A` (R215). -/
def execCbSet7A (s : State) : Result := setOpnd 7 (.reg .a) s

end Sys2Proof.Machine
end

