-- ==== Sys2Proof/Machine/System.lean ====
section
/-! DEFINITION. System instructions (46_system.md) and the illegal opcodes. First the shared operations, then one
meaning per row. -/

namespace Sys2Proof.Machine

/-- R260. -/
def noOperation (s : State) : Result := .next (s.advance 1)

/-- R261: `ime` is neither read nor changed. -/
def haltCore (s : State) : Result := .next ({ s with runState := .halted }.advance 1)

/-- R262: the second byte has been fetched and is ignored. -/
def stopCore (s : State) : Result := .next ({ s with runState := .stopped }.advance 2)

/-- R264, R265: `ime <- v`, with no delay. -/
def setIme (v : Bool) (s : State) : Result := .next ({ s with ime := v }.advance 1)

/-- R266, R281: the fault names the address of the byte, which is `pc`, and the byte. -/
def illegalOp (op : Byte) (s : State) : Result := .fault (.illegalOpcode s.pc op)

/-! ### One meaning per row -/

/-- `NOP` (R260). -/
def execNop (s : State) : Result := noOperation s

/-- `STOP` (R262). -/
def execStop (_n : Byte) (s : State) : Result := stopCore s

/-- `HALT` (R261). -/
def execHalt (s : State) : Result := haltCore s

/-- The illegal byte 0xD3 (R266). -/
def execIllegalD3 (s : State) : Result := illegalOp 0xD3#8 s

/-- The illegal byte 0xDB (R266). -/
def execIllegalDB (s : State) : Result := illegalOp 0xDB#8 s

/-- The illegal byte 0xDD (R266). -/
def execIllegalDD (s : State) : Result := illegalOp 0xDD#8 s

/-- The illegal byte 0xE3 (R266). -/
def execIllegalE3 (s : State) : Result := illegalOp 0xE3#8 s

/-- The illegal byte 0xE4 (R266). -/
def execIllegalE4 (s : State) : Result := illegalOp 0xE4#8 s

/-- The illegal byte 0xEB (R266). -/
def execIllegalEB (s : State) : Result := illegalOp 0xEB#8 s

/-- The illegal byte 0xEC (R266). -/
def execIllegalEC (s : State) : Result := illegalOp 0xEC#8 s

/-- The illegal byte 0xED (R266). -/
def execIllegalED (s : State) : Result := illegalOp 0xED#8 s

/-- `DI` (R264). -/
def execDi (s : State) : Result := setIme false s

/-- The illegal byte 0xF4 (R266). -/
def execIllegalF4 (s : State) : Result := illegalOp 0xF4#8 s

/-- `EI` (R265). -/
def execEi (s : State) : Result := setIme true s

/-- The illegal byte 0xFC (R266). -/
def execIllegalFC (s : State) : Result := illegalOp 0xFC#8 s

/-- The illegal byte 0xFD (R266). -/
def execIllegalFD (s : State) : Result := illegalOp 0xFD#8 s

end Sys2Proof.Machine
end

