-- ==== Sys2Proof/Machine/Timing.lean ====
section
/-! DEFINITION. Cycle accounting (R322). The tables are parameters (R7, D16) and are read from the state, so that what
is said of every state is said of every table. -/

namespace Sys2Proof.Machine

/-- The condition a conditional transfer (JR cc, JP cc, CALL cc, RET cc) tests (R87, R91). -/
def takenCond (op : Byte) : Option Cond :=
  match op.toNat with
  | 0x20 | 0xC2 | 0xC4 | 0xC0 => some .nz
  | 0x28 | 0xCA | 0xCC | 0xC8 => some .z
  | 0x30 | 0xD2 | 0xD4 | 0xD0 => some .nc
  | 0x38 | 0xDA | 0xDC | 0xD8 => some .c
  | _ => none

/-- The duration of a completed step whose instruction begins with `op` and `b1`, from the flags before it (R322). -/
def stepDuration (s : State) (op b1 : Byte) : Nat :=
  if op = 0xCB#8 then durEntry s.params.durCb b1
  else
    match takenCond op with
    | some cc => if s.cond cc then durEntry s.params.durTaken op else durEntry s.params.durBase op
    | none => durEntry s.params.durBase op

/-- `cyc <- cyc + d`. -/
def State.addCycles (s : State) (d : Nat) : State := { s with cyc := s.cyc + d }

/-- Charge a completed step; a faulted step adds nothing (R283, R322). -/
def charge (d : Nat) : Result → Result
  | .next t => .next (t.addCycles d)
  | .fault f => .fault f
  | .refused r => .refused r

end Sys2Proof.Machine
end

