-- ==== Sys2Proof/Machine/Step.lean ====
section
/-! DEFINITION. One step of the sequencer (R28), and how the host places a word to be fetched. -/

namespace Sys2Proof.Machine

/-- R28: idle while not Running (R33); else fetch, decode, execute and account the cycles (R322). -/
def step (s : State) : Host.Outcome State Fault Refusal :=
  if s.runState = .running then
    match fetch s with
    | .error f => .fault f
    | .ok (op, b1, b2) => charge (stepDuration s op b1) (exec (decodeOp op b1 b2) s)
  else .next (s.addCycles s.params.durIdle)

/-- The state whose next step fetches the table word `w` of `nbits` bits: the bytes of `decodeTableWord` at `pc`,
in an image that covers the fixed region and bank 1 (R311), with the core Running. It stands for `load_rom` and the
environment's moves; log entry 4. -/
def State.withFetchWord (s : State) (nbits w : Nat) : State :=
  placeBytes { s with romSize := max s.romSize 0x8000, runState := .running } s.pc (tableWordBytes nbits w)

end Sys2Proof.Machine
end

