-- ==== Sys2Proof/Machine/Environment.lean ====
section
/-! DEFINITION. The host interface (R312): the environment's moves, which happen between steps only, and what a
step returns to the driver (R280). Log entry 7. -/

namespace Sys2Proof.Machine

/-- `load_rom(bytes)` (R64): the image, its size, and the bank pointer. -/
def loadRom (s : State) (image : List Byte) : State :=
  { s with rom := Memory.ofBytes 0 image, romSize := image.length, bankBase := 0x4000 }

/-- `Reset()` (R310) with its launch values: `INIT_REGS` and the 32768 bytes of `INIT_RAM` (bytes not given are
`Memory.unlisted`, bytes beyond are dropped). The ROM and the parameters are kept. -/
def resetCore (s : State) (init : InitRegs) (ramBytes : List Byte) : State :=
  State.launch s.params init (Memory.ofBytes 0x8000 (ramBytes.take 0x8000)) s.rom s.romSize

/-- The moves the environment has while the core runs (R67, R288, R310, R312). `load_rom` is none of them (D23). -/
inductive EnvMove where
  /-- `WAKE` (R288). -/
  | wake
  /-- A device writes a byte (R67). -/
  | writeRam (a : Word) (v : Byte)
  /-- A reset (R310). -/
  | reset (init : InitRegs) (ramBytes : List Byte)
  deriving DecidableEq, Repr

/-- The state after a move of the environment, or none where the move is not available: `WAKE` while Running (R288),
a write outside `EXT_REGION` (R67). -/
def State.envMove (s : State) : EnvMove → Option State
  | .wake => if s.runState = .running then none else some { s with runState := .running }
  | .writeRam a v =>
    if inExtRegion s.params a then some { s with ram := s.ram.write a.toNat v } else none
  | .reset init ramBytes => some (resetCore s init ramBytes)

/-- What a step returns to the driver (R280). -/
inductive StepReport where
  | ok
  | idle
  | illegalOpcode (addr : Word) (op : Byte)
  | bankOutOfRange (addr : Word) (index : Nat)
  /-- No outcome of the spec; no step of this model returns it. -/
  | refused (r : Refusal)
  deriving DecidableEq, Repr

/-- `Step()` as the driver sees it (R280, R312): the report, and the state after, which a fault leaves as it was
(R283). -/
def State.driverStep (s : State) : StepReport × State :=
  match step s with
  | .next t => (if s.runState = .running then .ok else .idle, t)
  | .fault (.illegalOpcode a op) => (.illegalOpcode a op, s)
  | .fault (.bankOutOfRange a i) => (.bankOutOfRange a i, s)
  | .refused r => (.refused r, s)

/-! ### Runs -/

/-- The environment's moves between two steps, in order; none where one of them is not available. -/
def State.envMoves (s : State) : List EnvMove → Option State
  | [] => some s
  | m :: ms =>
    match s.envMove m with
    | some t => t.envMoves ms
    | none => none

/-- A run by the driver, `END_OF_RUN` being `endOfRun` (R7, R312, R313). In each round the environment makes its moves;
then the run ends if `endOfRun` holds, else the core takes a step. The answer is the final state, or none: where a step
faults, since a faulted step never ends a run (R298), where a move is not available, or where the rounds give out. -/
def runUntil (endOfRun : State → Bool) : List (List EnvMove) → State → Option State
  | [], _ => none
  | moves :: rounds, s =>
    match s.envMoves moves with
    | none => none
    | some t =>
      if endOfRun t then some t
      else
        match step t with
        | .next u => runUntil endOfRun rounds u
        | .fault _ => none
        | .refused _ => none

/-- The `END_OF_RUN` the spec suggests (R313, D25): the core is paused, and, being asked after the moves of the round,
no `WAKE` was delivered. Log entry 9. -/
def pausedAtEnd (s : State) : Bool := s.runState != .running

end Sys2Proof.Machine
end

