-- ==== Sys2Proof/Safety.lean ====
section
/-! DEFINITION. What claims are stated in: the invariant of reachable states, and what an instruction keeps (its
frame) or stores. -/

namespace Sys2Proof.Machine

/-- F[3:0] = 0 (R24). -/
abbrev State.FlagsLow (s : State) : Prop := s.af.toNat % 16 = 0

/-- `bank_base` is 0x4000 x n for an n in 1 to 31 (R31). -/
abbrev State.BankLegal (s : State) : Prop :=
  s.bankBase % 0x4000 = 0 ∧ 0x4000 ≤ s.bankBase ∧ s.bankBase ≤ 0x7C000

/-- RAM is in canonical form and holds only addresses 0x8000 to 0xFFFF (R53). -/
abbrev State.RamWf (s : State) : Prop := s.ram.wf = true ∧ s.ram.within 0x8000 0x10000 = true

/-- The image is in canonical form and holds only indices below its size (R35). -/
abbrev State.RomWf (s : State) : Prop := s.rom.wf = true ∧ s.rom.within 0 s.romSize = true

/-- What holds of every reachable state. -/
abbrev State.Inv (s : State) : Prop := s.FlagsLow ∧ s.BankLegal ∧ s.RamWf ∧ s.RomWf

/-- A safe step: it completes, with neither fault nor refusal. -/
def State.StepSafe (s : State) : Prop := ∃ t, step s = .next t

/-! ### Frames -/

/-- Every 8-bit register outside `ex` is as before. -/
def RegsKept (s t : State) (ex : List Reg8) : Prop := ∀ r, r ∉ ex → t.reg8 r = s.reg8 r

/-- The whole flags byte is as before: a row `- - - -` (R13). -/
def FlagsKept (s t : State) : Prop := t.f = s.f

/-- The four flags are as given and F[3:0] is as before (R13). -/
def FlagsAre (s t : State) (z n h c : Bool) : Prop :=
  t.flagZ = z ∧ t.flagN = n ∧ t.flagH = h ∧ t.flagC = c ∧ t.f.toNat % 16 = s.f.toNat % 16

/-- `ime`, `run_state` and `cyc` are as before (R110; `cyc` is charged by the step, not by the instruction). -/
def CtlKept (s t : State) : Prop := t.ime = s.ime ∧ t.runState = s.runState ∧ t.cyc = s.cyc

/-- The image, the bank and the parameters are as before, and every address of the space reads as before. -/
def MemKept (s t : State) : Prop :=
  t.bankBase = s.bankBase ∧ t.rom = s.rom ∧ t.romSize = s.romSize ∧ t.params = s.params ∧
  ∀ x, memRead8 t x = memRead8 s x

/-- `bank_base` after a byte `v` is written at `a` (R31, R57, R60, R61). -/
def bankAfter (bank : Nat) (a : Word) (v : Byte) : Nat :=
  if 0x2000 ≤ a.toNat ∧ a.toNat < 0x4000 ∧ v.toNat % 32 ≠ 0 then 0x4000 * (v.toNat % 32) else bank

/-- From `s` to `t` the memory unit took one byte `v` at `a` (R57, R60, R61): at 0x8000 and up `a` reads as `v`;
below, nothing is stored; every other address reads as before, but in the window 0x4000 to 0x7FFF when the bank
changed. -/
def StoredByte (s t : State) (a : Word) (v : Byte) : Prop :=
  t.rom = s.rom ∧ t.romSize = s.romSize ∧ t.params = s.params ∧ t.bankBase = bankAfter s.bankBase a v ∧
  (0x8000 ≤ a.toNat → memRead8 t a = .ok v) ∧
  ∀ x : Word, (x ≠ a ∨ x.toNat < 0x8000) →
    (x.toNat < 0x4000 ∨ 0x8000 ≤ x.toNat ∨ t.bankBase = s.bankBase) → memRead8 t x = memRead8 s x

/-- From `s` to `t` the memory unit took the word `v` at `a`: the low byte at `a`, then the high byte at `a + 1`
(R55, R59), each as in `StoredByte`. -/
def StoredWord (s t : State) (a v : Word) : Prop :=
  t.rom = s.rom ∧ t.romSize = s.romSize ∧ t.params = s.params ∧
  t.bankBase = bankAfter (bankAfter s.bankBase a (loByte v)) (a + 1) (hiByte v) ∧
  (0x8000 ≤ a.toNat → memRead8 t a = .ok (loByte v)) ∧
  (0x8000 ≤ (a + 1).toNat → memRead8 t (a + 1) = .ok (hiByte v)) ∧
  ∀ x : Word, (x ≠ a ∧ x ≠ a + 1 ∨ x.toNat < 0x8000) →
    (x.toNat < 0x4000 ∨ 0x8000 ≤ x.toNat ∨ t.bankBase = s.bankBase) → memRead8 t x = memRead8 s x

/-- The instruction completes: its bytes are `bytes`, and `exec` answers a next state with the property. -/
def Completes (i : Instr) (bytes : List Byte) (s : State) (P : State → Prop) : Prop :=
  encode i = bytes ∧ ∃ t, exec i s = .next t ∧ P t

/-- Nothing changed but the registers `ex`, the flags, and `pc`, which advanced by `len`. -/
def OnlyRegs (s t : State) (ex : List Reg8) (len : Nat) : Prop :=
  RegsKept s t ex ∧ t.sp = s.sp ∧ t.pc = s.pc + BitVec.ofNat 16 len ∧ CtlKept s t ∧ MemKept s t

/-- Nothing changed but memory, the registers `ex`, the flags, and `pc`, which advanced by `len`. -/
def OnlyRegsAndMem (s t : State) (ex : List Reg8) (len : Nat) : Prop :=
  RegsKept s t ex ∧ t.sp = s.sp ∧ t.pc = s.pc + BitVec.ofNat 16 len ∧ CtlKept s t

/-- `v` was written to the operand `o`, and nothing else changed but the flags and `pc`, which advanced by `len`. -/
def WroteOpnd (s t : State) (o : Opnd8) (v : Byte) (len : Nat) : Prop :=
  match o with
  | .reg r => t.reg8 r = v ∧ OnlyRegs s t [r] len
  | .memHl => StoredByte s t s.hl v ∧ OnlyRegsAndMem s t [] len

/-- The completed instruction changed only `sp`, `pc` and memory at most; the caller says how. -/
def RegsAndCtlKept (s t : State) : Prop := RegsKept s t [] ∧ FlagsKept s t ∧ CtlKept s t

end Sys2Proof.Machine
end

