-- ==== Sys2Proof/WellFormed.lean ====
section
/-! DEFINITION. Which terms of `Instr` are instructions. -/

namespace Sys2Proof

/-- Every term is an instruction but the escape row: 0xCB "is not an instruction of its own" (R263); its words are
those of the secondary table's rows, to which they decode. All other operands are exactly as wide as their fields. -/
def Instr.wellFormed : Instr → Bool
  | .prefixCb _ => false
  | _ => true

/-- `Instr.wellFormed` as a proposition. -/
abbrev Instr.WellFormed (i : Instr) : Prop := i.wellFormed = true

end Sys2Proof
end

