-- ==== Sys2Proof/Certificates/Slice0/Obligations.lean ====
section
/-! DEFINITION. The statements for the provers. A statement about an instruction speaks of every row whose `form`
is the one named, so of every constructor of that shape; its docstring lists the rows. -/

open Sys2Proof Sys2Proof.Machine

/-! ### The memory unit -/

/-- What a read of `a` below 0x8000 gives when bank `n` of `image` is in the window (R52, R54, R56). -/
def imageShows (image : List Byte) (n : Nat) (a : Word) : Except Fault Byte :=
  let index := if a.toNat < 0x4000 then a.toNat else 0x4000 * n + (a.toNat - 0x4000)
  match image[index]? with
  | some b => .ok b
  | none => .error (.bankOutOfRange a index)

/-- R52, R54, R56, R60, R62, R64: straight after `load_rom(image)` a read below 0x8000 gives the image's byte at the index
the decoder forms with bank 1 in the window, or the bank-out-of-range fault with that address and index; after the
selection of bank n (1 to 31) too, with bank n; the selection of bank 0 leaves bank 1. -/
def Obligations.LoadedImageReadsThroughDecoder : Prop :=
  ∀ (s : State) (image : List Byte) (a : Word), a.toNat < 0x8000 →
    memRead8 (loadRom s image) a = imageShows image 1 a ∧
    ∀ v : Byte, memRead8 (selectBank (loadRom s image) v) a =
      imageShows image (if v.toNat % 32 = 0 then 1 else v.toNat % 32) a

/-- R57 to R59, R63, R75: a byte or a word written at 0x8000 or above reads back, the low byte of a word at the lower
address; its two bytes are decoded separately, and the second address wraps. Every other address reads as before, a
write below 0x8000 stores nothing and selects a bank at most, and no register changes. -/
def Obligations.WritesReadBack : Prop :=
  ∀ (s : State) (a : Word), s.RamWf →
    (∀ v : Byte, StoredByte s (memWrite8 s a v) a v ∧ RegsAndCtlKept s (memWrite8 s a v) ∧
      (memWrite8 s a v).sp = s.sp ∧ (memWrite8 s a v).pc = s.pc) ∧
    ∀ v : Word, StoredWord s (memWrite16 s a v) a v ∧ RegsAndCtlKept s (memWrite16 s a v) ∧
      (memWrite16 s a v).sp = s.sp ∧ (memWrite16 s a v).pc = s.pc ∧
      (0x8000 ≤ a.toNat → a.toNat ≤ 0xFFFE → memRead16 (memWrite16 s a v) a = .ok v)

/-- R60, R61, R62: after a write to 0x2000 to 0x3FFF of a value whose low five bits are n > 0, every address of the
window shows bank n of the image, or faults beyond it; any other write below 0x8000 changes no state at all. -/
def Obligations.BankWindowShowsSelectedBank : Prop :=
  ∀ (s : State) (a : Word) (v : Byte), a.toNat < 0x8000 →
    if 0x2000 ≤ a.toNat ∧ a.toNat < 0x4000 ∧ v.toNat % 32 ≠ 0 then
      memWrite8 s a v = { s with bankBase := 0x4000 * (v.toNat % 32) } ∧
      ∀ x : Word, 0x4000 ≤ x.toNat → x.toNat < 0x8000 →
        memRead8 (memWrite8 s a v) x =
          (let index := 0x4000 * (v.toNat % 32) + (x.toNat - 0x4000)
           if index < s.romSize then .ok (s.rom.read index) else .error (.bankOutOfRange x index))
    else memWrite8 s a v = s

/-- R21, R22, R24: the accessor laws. A written half reads back and every other 8-bit register, F, SP and `pc` are as
before; a written pair reads back, AF with its low nibble zero; a pair is its two halves, the first-named one high,
which R21 states for AF and takes from general knowledge for the others (G1). -/
def Obligations.RegisterAccessorsObeyLaws : Prop :=
  (∀ (s : State) (r : Reg8) (v : Byte), (s.setReg8 r v).reg8 r = v ∧ RegsKept s (s.setReg8 r v) [r] ∧
    FlagsKept s (s.setReg8 r v) ∧ (s.setReg8 r v).sp = s.sp ∧ (s.setReg8 r v).pc = s.pc) ∧
  (∀ (s : State) (p : Pair) (v : Word), (s.setPair p v).pair p = v) ∧
  (∀ (s : State) (p : StackPair) (v : Word), p ≠ .af → (s.setStackPair p v).stackPair p = v) ∧
  (∀ (s : State) (v : Word), (s.setStackPair .af v).af = v &&& 0xFFF0#16 ∧
    (s.setStackPair .af v).a = hiByte v ∧ (s.setStackPair .af v).f = loByte v &&& 0xF0#8) ∧
  (∀ (s : State) (v : Word), (s.jump v).pc = v) ∧
  ∀ s : State, s.bc = wordOf (s.reg8 .b) (s.reg8 .c) ∧ s.de = wordOf (s.reg8 .d) (s.reg8 .e) ∧
    s.hl = wordOf (s.reg8 .h) (s.reg8 .l) ∧ s.af = wordOf s.a s.f

/-- R13, R24: writing the flags sets Z, N, H, C in bits 7, 6, 5, 4 of F and changes neither F[3:0] nor any other
register, SP and `pc` among them; that F[3:0] is kept in states no run reaches is the model's reading (log entry 13). -/
def Obligations.FlagWritesKeepLowNibble : Prop :=
  ∀ (s : State) (z n h c : Bool),
    FlagsAre s (s.setFlags z n h c) z n h c ∧ RegsKept s (s.setFlags z n h c) [] ∧
      (s.setFlags z n h c).sp = s.sp ∧ (s.setFlags z n h c).pc = s.pc ∧
      (s.setFlags z n h c).f.toNat =
        128 * z.toNat + 64 * n.toNat + 32 * h.toNat + 16 * c.toNat + s.f.toNat % 16

/-! ### Encoding -/

/-- Every well-formed instruction decodes from its bytes, whatever follows them, with every operand. -/
def Obligations.DecodeOfEncode : Prop :=
  ∀ (i : Instr) (rest : List Byte), i.WellFormed → decode (encode i ++ rest) = .ok (i, rest)

/-- Whatever bytes decode are the bytes of the instruction decoded, which is well-formed. -/
def Obligations.EncodeOfDecode : Prop :=
  ∀ (bytes : List Byte) (i : Instr) (rest : List Byte), decode bytes = .ok (i, rest) →
    i.WellFormed ∧ encode i ++ rest = bytes

/-- The secondary table by fields (R94): `x` selects rotates, BIT, RES, SET; `y` the kind or bit; `z` the operand. -/
def cbFieldForm (o : Byte) : Form :=
  match o.toNat / 64 with
  | 0 => .rot (rotOfIndex (o.toNat / 8 % 8)) (opndOfIndex (o.toNat % 8))
  | 1 => .bit (Fin.ofNat 8 (o.toNat / 8 % 8)) (opndOfIndex (o.toNat % 8))
  | 2 => .res (Fin.ofNat 8 (o.toNat / 8 % 8)) (opndOfIndex (o.toNat % 8))
  | _ => .set (Fin.ofNat 8 (o.toNat / 8 % 8)) (opndOfIndex (o.toNat % 8))

/-- R94, R88: every second byte selects the instruction its fields name, whatever byte follows. -/
def Obligations.SecondaryTableFollowsFields : Prop :=
  ∀ o b2 : Byte, (decodeOp 0xCB#8 o b2).form = cbFieldForm o

/-- R91, the map by fields, for blocks 1 and 2 and the regular columns of block 0 (LD r,r', HALT, the accumulator
block, INC, DEC and LD r,d8): `y` = op[5:3] and `z` = op[2:0] select operation and operands. -/
def Obligations.RegularBlocksFollowFields : Prop :=
  ∀ op b1 b2 : Byte,
    let y := op.toNat / 8 % 8
    let z := op.toNat % 8
    (op.toNat / 64 = 1 → (decodeOp op b1 b2).form =
      match opndOfIndex y, opndOfIndex z with
      | .reg dst, .reg src => .ldRegReg dst src
      | .reg dst, .memHl => .ldRegMem dst
      | .memHl, .reg src => .ldMemReg src
      | .memHl, .memHl => .halt) ∧
    (∀ alu : AluOp, alu.index = y → op.toNat / 64 = 2 → (decodeOp op b1 b2).form = .alu alu (opndOfIndex z)) ∧
    (∀ alu : AluOp, alu.index = y → op.toNat / 64 = 3 → z = 6 → (decodeOp op b1 b2).form = .aluImm alu b1) ∧
    (op.toNat / 64 = 0 → z = 4 → (decodeOp op b1 b2).form = .inc8 (opndOfIndex y)) ∧
    (op.toNat / 64 = 0 → z = 5 → (decodeOp op b1 b2).form = .dec8 (opndOfIndex y)) ∧
    (op.toNat / 64 = 0 → z = 6 → (decodeOp op b1 b2).form = .ld8Imm (opndOfIndex y) b1)

/-- Words written out from the Encoding lines of their rules, one or more per family, decode to their instructions. -/
def Obligations.SpecWordsDecode : Prop :=
  decode [0x41#8] = .ok (.ldBC, []) ∧ decode [0x3E#8, 0x2A#8] = .ok (.ldAD8 0x2A#8, []) ∧
  decode [0xEA#8, 0x00#8, 0xC0#8] = .ok (.ldMemA16A 0xC000#16, []) ∧
  decode [0x21#8, 0x34#8, 0x12#8] = .ok (.ldHlD16 0x1234#16, []) ∧ decode [0xF5#8] = .ok (.pushAf, []) ∧
  decode [0xCE#8, 0x01#8] = .ok (.adcAD8 0x01#8, []) ∧ decode [0xBE#8] = .ok (.cpAMemHl, []) ∧
  decode [0x19#8] = .ok (.addHlDe, []) ∧ decode [0x1F#8] = .ok (.rra, []) ∧
  decode [0xCB#8, 0x37#8] = .ok (.cbSwapA, []) ∧ decode [0xCB#8, 0xBE#8] = .ok (.cbRes7MemHl, []) ∧
  decode [0x20#8, 0xFC#8] = .ok (.jrNzE8 0xFC#8, []) ∧ decode [0xDC#8, 0x00#8, 0xD0#8] = .ok (.callCA16 0xD000#16, []) ∧
  decode [0xEF#8] = .ok (.rst28, []) ∧ decode [0x10#8, 0xDD#8] = .ok (.stop 0xDD#8, []) ∧
  decode [0xD3#8] = .ok (.illegalD3, [])

/-- R80, R81, R83, R92: only missing bytes stop the decoder. That an illegal first byte is a row of its own, one byte long,
so that the decoder answers it and `exec` faults, is the model's choice (log entry 12). -/
def Obligations.OnlyMissingBytesStopDecoding : Prop :=
  ∀ bytes : List Byte,
    (∃ e, decode bytes = .error e) ↔
      bytes = [] ∨ ∃ op rest, bytes = op :: rest ∧ bytes.length < instrLength op

/-- The eleven first bytes that select no instruction (R92). -/
def illegalBytes : List Byte :=
  [0xD3#8, 0xDB#8, 0xDD#8, 0xE3#8, 0xE4#8, 0xEB#8, 0xEC#8, 0xED#8, 0xF4#8, 0xFC#8, 0xFD#8]

/-- R92, R266, R281: exactly these eleven first bytes raise `IllegalOpcode`, which names `pc` and the byte. That they are
rows whose `exec` raises it, not the decoder, is the model's choice (log entry 12). Rows: the eleven illegal rows. -/
def Obligations.IllegalBytesFault : Prop :=
  (∀ op b1 b2 : Byte, op ∈ illegalBytes → ∀ s : State,
    exec (decodeOp op b1 b2) s = .fault (.illegalOpcode s.pc op)) ∧
  ∀ (op b1 b2 : Byte) (s : State) (a : Word) (o : Byte),
    exec (decodeOp op b1 b2) s = .fault (.illegalOpcode a o) → op ∈ illegalBytes

/-! ### The step -/

/-- R322, the duration of a completed step by the instruction it ran: `DUR_CB` behind 0xCB; `DUR_TAKEN` for JR cc, JP cc,
CALL cc and RET cc when the condition held; else `DUR_BASE`. -/
def duration (s : State) (i : Instr) (op b1 : Byte) : Nat :=
  if op = 0xCB#8 then durEntry s.params.durCb b1
  else
    match i.form with
    | .jrCond cc _ | .jpCond cc _ | .callCond cc _ | .retCond cc =>
      if s.cond cc then durEntry s.params.durTaken op else durEntry s.params.durBase op
    | _ => durEntry s.params.durBase op

/-- R28, R322: when the bytes at `pc` are readable and decode, a Running step is `exec` of the instruction, with its
duration, from the tables that are parameters, added to `cyc`. -/
def Obligations.StepRunsDecoded : Prop :=
  ∀ (s : State) (op b1 b2 : Byte) (bytes : List Byte) (i : Instr), s.runState = .running →
    memRead8 s s.pc = .ok op →
    (2 ≤ instrLength op → memRead8 s (s.pc + 1) = .ok b1) →
    (3 ≤ instrLength op → memRead8 s (s.pc + 2) = .ok b2) →
    bytes = [op, b1, b2].take (instrLength op) →
    decode bytes = .ok (i, []) →
    i.WellFormed ∧ encode i = bytes ∧ step s = charge (duration s i op b1) (exec i s)

/-- R28, R33, R296: a step of a paused core completes and changes nothing but `cyc`, which grows by `DUR_IDLE`. -/
def Obligations.PausedCoreOnlyCounts : Prop :=
  ∀ s : State, s.runState ≠ .running → step s = .next { s with cyc := s.cyc + s.params.durIdle }

/-- R281, R284: the fetch faults in order: the opcode's read; then an illegal byte, whatever follows it; then the
reads of byte 1 and byte 2. -/
def Obligations.FetchFaultsInOrder : Prop :=
  ∀ (s : State) (f : Fault) (op b1 : Byte), s.runState = .running →
    (memRead8 s s.pc = .error f → step s = .fault f) ∧
    (memRead8 s s.pc = .ok op → op ∈ illegalBytes → step s = .fault (.illegalOpcode s.pc op)) ∧
    (memRead8 s s.pc = .ok op → 2 ≤ instrLength op → memRead8 s (s.pc + 1) = .error f → step s = .fault f) ∧
    (memRead8 s s.pc = .ok op → instrLength op = 3 → memRead8 s (s.pc + 1) = .ok b1 →
      memRead8 s (s.pc + 2) = .error f → step s = .fault f)

/-- R280 to R283: what a step hands the driver is Ok when a Running core completes, Idle exactly when it is paused,
IllegalOpcode exactly when a Running core has an illegal byte at `pc`, or BankOutOfRange in a Running core with an address
whose index lies beyond the image; a fault leaves the state as before. (When BankOutOfRange comes is said by
`FetchFaultsInOrder` and `DataReadsFault`.) Ok and Idle are both `next` here, and `driverStep` tells them apart: the
model's form (log entry 5). -/
def Obligations.StepReportsAreTheSpecs : Prop :=
  ∀ s : State,
    (match s.driverStep.1 with
      | .ok => s.runState = .running ∧ step s = .next s.driverStep.2
      | .idle => s.runState ≠ .running ∧ s.driverStep.2 = { s with cyc := s.cyc + s.params.durIdle }
      | .illegalOpcode a op =>
        s.runState = .running ∧ s.driverStep.2 = s ∧ a = s.pc ∧ memRead8 s s.pc = .ok op ∧ op ∈ illegalBytes
      | .bankOutOfRange a i =>
        s.runState = .running ∧ s.driverStep.2 = s ∧ s.romIndex a = some i ∧ s.romSize ≤ i
      | .refused _ => False) ∧
    (s.runState ≠ .running → s.driverStep.1 = .idle) ∧
    (∀ t, s.runState = .running → step s = .next t → s.driverStep.1 = .ok) ∧
    ∀ op, s.runState = .running → memRead8 s s.pc = .ok op → op ∈ illegalBytes →
      s.driverStep.1 = .illegalOpcode s.pc op

/-- R282: with an image of at least 0x80000 bytes and a legal bank, no step raises `BankOutOfRange`. -/
def Obligations.FullImageNeverOutOfRange : Prop :=
  ∀ s : State, s.BankLegal → 0x80000 ≤ s.romSize →
    ∀ (a : Word) (i : Nat), step s ≠ .fault (.bankOutOfRange a i)

/-- R24, R31, R53, R35: every completed step, from every state with the invariant, leaves the invariant: F[3:0] = 0, a
legal bank, both memories canonical and in range. -/
def Obligations.StepKeepsInvariant : Prop :=
  ∀ s t : State, s.Inv → step s = .next t → t.Inv

/-- R36, R310: for all parameters, reset puts `pc`, `ime`, `run_state`, `cyc` and `bank_base` to their values, the registers
to `INIT_REGS` with F[3:0] = 0 and RAM to `INIT_RAM`, and keeps the image; with a well-formed image the invariant holds.
A list shorter than RAM counts as padded (log entry 14). The launch values of `State.reset` are the model's choice (log
entries 1 to 4, 6, 8); the second part says only that they meet the invariant. -/
def Obligations.ResetMeetsInvariant : Prop :=
  (∀ (s : State) (init : InitRegs) (ramBytes : List Byte), s.RomWf →
    let t := resetCore s init ramBytes
    t.Inv ∧ t.pc = s.params.resetPc ∧ t.ime = false ∧ t.runState = .running ∧ t.cyc = 0 ∧ t.bankBase = 0x4000 ∧
      t.rom = s.rom ∧ t.romSize = s.romSize ∧ t.bc = init.bc ∧ t.de = init.de ∧ t.hl = init.hl ∧ t.sp = init.sp ∧
      t.a = hiByte init.af ∧ t.f = loByte init.af &&& 0xF0#8 ∧ t.params = s.params ∧
      ∀ k, k < 0x8000 → memRead8 t (BitVec.ofNat 16 (0x8000 + k)) = .ok (ramBytes.getD k Memory.unlisted)) ∧
  State.reset.Inv

/-- R7, R35, R57: no step changes the image or a parameter. -/
def Obligations.NoStepWritesRom : Prop :=
  ∀ s t : State, step s = .next t → t.rom = s.rom ∧ t.romSize = s.romSize ∧ t.params = s.params

/-- R30, R287: the only steps that change `ime` are those of EI, RETI (to 1) and DI (to 0). -/
def Obligations.OnlyEiDiRetiWriteIme : Prop :=
  ∀ s t : State, step s = .next t → t.ime ≠ s.ime →
    (t.ime = true ∧ (memRead8 s s.pc = .ok 0xFB#8 ∨ memRead8 s s.pc = .ok 0xD9#8)) ∨
    (t.ime = false ∧ memRead8 s s.pc = .ok 0xF3#8)

/-- R33, R296: a step pauses the core only by HALT, into Halted, or STOP, into Stopped; no step resumes it. -/
def Obligations.OnlyHaltAndStopPause : Prop :=
  ∀ s t : State, step s = .next t → t.runState ≠ s.runState →
    s.runState = .running ∧
      ((t.runState = .halted ∧ memRead8 s s.pc = .ok 0x76#8) ∨
       (t.runState = .stopped ∧ memRead8 s s.pc = .ok 0x10#8))

/-- R30, R32, R285, R322: neither `ime` nor `cyc` steers a step: with other values of the two the step ends alike, in a
state that differs in them at most, and it adds the same number of cycles. -/
def Obligations.ImeAndCycNeverSteerStep : Prop :=
  ∀ (s : State) (b : Bool) (c : Nat),
    match step s with
    | .next t => ∃ b' d, t.cyc = s.cyc + d ∧
        step { s with ime := b, cyc := c } = .next { t with ime := b', cyc := c + d }
    | .fault f => step { s with ime := b, cyc := c } = .fault f
    | .refused r => step { s with ime := b, cyc := c } = .refused r

/-- R67, R288, R310, R312, R313: what each move of the environment does, for every `EXT_REGION`, and that it keeps the
invariant, the image and the parameters. So a run, under every `END_OF_RUN` and whatever the environment does, ends in a
state that meets `END_OF_RUN`, and keeps them too. The moves are functions beside `step`: the model's choice (log entry 7). -/
def Obligations.EnvironmentMovesKeepInvariant : Prop :=
  (∀ (s t : State) (m : EnvMove), s.Inv → s.envMove m = some t →
    t.Inv ∧ t.rom = s.rom ∧ t.romSize = s.romSize ∧ t.params = s.params ∧
    match m with
    | .wake => s.runState ≠ .running ∧ t = { s with runState := .running }
    | .writeRam a v =>
      0x8000 ≤ a.toNat ∧ (∃ lo hi, (lo, hi) ∈ s.params.extRegion ∧ lo.toNat ≤ a.toNat ∧ a.toNat ≤ hi.toNat) ∧
      StoredByte s t a v ∧ RegsAndCtlKept s t ∧ t.sp = s.sp ∧ t.pc = s.pc
    | .reset init ramBytes => t = resetCore s init ramBytes) ∧
  ∀ (endOfRun : State → Bool) (rounds : List (List EnvMove)) (s t : State), s.Inv →
    runUntil endOfRun rounds s = some t →
    endOfRun t = true ∧ t.Inv ∧ t.rom = s.rom ∧ t.romSize = s.romSize ∧ t.params = s.params

/-- R87: the four conditions on F. -/
def condHolds (s : State) : Cond → Prop
  | .nz => s.f &&& 0x80#8 = 0
  | .z => s.f &&& 0x80#8 ≠ 0
  | .nc => s.f &&& 0x10#8 = 0
  | .c => s.f &&& 0x10#8 ≠ 0

/-- `Reads s f a n`: an instruction of form `f` reads data in `s`, `n` bytes from address `a` on (R68). -/
inductive Reads (s : State) : Form → Word → Nat → Prop where
  | loadHl (dst : Reg8) : Reads s (.ldRegMem dst) s.hl 1
  | loadBc : Reads s (.ldAInd .bc) s.bc 1
  | loadDe : Reads s (.ldAInd .de) s.de 1
  | loadHlInc : Reads s (.ldAInd .hlInc) s.hl 1
  | loadHlDec : Reads s (.ldAInd .hlDec) s.hl 1
  | loadMem (a : Word) : Reads s (.ldAMem a) a 1
  | loadHigh (n : Byte) : Reads s (.ldhAMem n) (0xFF00#16 + n.setWidth 16) 1
  | loadHighC : Reads s .ldAHighC (0xFF00#16 + (s.reg8 .c).setWidth 16) 1
  | alu (op : AluOp) : Reads s (.alu op .memHl) s.hl 1
  | inc : Reads s (.inc8 .memHl) s.hl 1
  | dec : Reads s (.dec8 .memHl) s.hl 1
  | rot (op : RotOp) : Reads s (.rot op .memHl) s.hl 1
  | bit (n : Fin 8) : Reads s (.bit n .memHl) s.hl 1
  | res (n : Fin 8) : Reads s (.res n .memHl) s.hl 1
  | set (n : Fin 8) : Reads s (.set n .memHl) s.hl 1
  | pop (p : StackPair) : Reads s (.pop p) s.sp 2
  | ret : Reads s .ret s.sp 2
  | reti : Reads s .reti s.sp 2
  | retCond (cc : Cond) (taken : condHolds s cc) : Reads s (.retCond cc) s.sp 2

/-- R282, R283, R110: a data read beyond the image is the instruction's fault, the low-address byte of a word first,
for every row that reads: the loads from (HL), (BC), (DE), (a16), (HL+), (HL-), the (HL) forms of the ALU, INC, DEC and
the secondary table, POP, RET, RET cc when taken, RETI. (The two loads from 0xFF00 up read RAM, so they never fault.) -/
def Obligations.DataReadsFault : Prop :=
  ∀ (i : Instr) (s : State) (a : Word) (n : Nat) (f : Fault), Reads s i.form a n →
    (memRead8 s a = .error f → exec i s = .fault f) ∧
    (n = 2 → ∀ v, memRead8 s a = .ok v → memRead8 s (a + 1) = .error f → exec i s = .fault f)

/-- R110 (b): no fault exists but the illegal opcode and a failed data read. So a row that is neither illegal nor the
escape, and whose data reads succeed, completes. -/
def Obligations.NoOtherFault : Prop :=
  ∀ (i : Instr) (s : State), i.WellFormed → (∀ op, i.form ≠ .illegal op) →
    (∀ a n, Reads s i.form a n → (∃ v, memRead8 s a = .ok v) ∧ (n = 2 → ∃ v, memRead8 s (a + 1) = .ok v)) →
    ∃ t, exec i s = .next t

/-- Where the data read fails, its fault is the instruction's. -/
def ReadFaults {α : Type} (i : Instr) (s : State) (r : Except Fault α) : Prop := ∀ f, r = .error f → exec i s = .fault f

/-! ### 8-bit loads -/

/-- R111. Rows: the 49 LD r,r' (`ldBB` to `ldAA`, opcodes 0x40 to 0x7F but the (HL) forms and HALT). -/
def Obligations.LoadRegisterFromRegister : Prop :=
  ∀ (i : Instr) (dst src : Reg8) (s : State), i.form = .ldRegReg dst src →
    Completes i [opcode (0x40 + 8 * dst.index + src.index)] s fun t =>
      t.reg8 dst = s.reg8 src ∧ OnlyRegs s t [dst] 1 ∧ FlagsKept s t

/-- R112. Rows: LD r,(HL) (`ldBMemHl`, `ldCMemHl`, `ldDMemHl`, `ldEMemHl`, `ldHMemHl`, `ldLMemHl`, `ldAMemHl`); the
address is HL before the write. -/
def Obligations.LoadRegisterFromHl : Prop :=
  ∀ (i : Instr) (dst : Reg8) (s : State), i.form = .ldRegMem dst →
    (∀ v, memRead8 s s.hl = .ok v →
      Completes i [opcode (0x46 + 8 * dst.index)] s fun t => t.reg8 dst = v ∧ OnlyRegs s t [dst] 1 ∧ FlagsKept s t) ∧
    ReadFaults i s (memRead8 s s.hl)

/-- R113, R115. Rows: LD (HL),r (`ldMemHlB` to `ldMemHlL`, `ldMemHlA`) and LD (HL),d8 (`ldMemHlD8`). -/
def Obligations.StoreToHl : Prop :=
  ∀ (i : Instr) (s : State), s.RamWf →
    (∀ src, i.form = .ldMemReg src → Completes i [opcode (0x70 + src.index)] s fun t =>
      StoredByte s t s.hl (s.reg8 src) ∧ OnlyRegsAndMem s t [] 1 ∧ FlagsKept s t) ∧
    ∀ n, i.form = .ld8Imm .memHl n → Completes i [opcode 0x36, n] s fun t =>
      StoredByte s t s.hl n ∧ OnlyRegsAndMem s t [] 2 ∧ FlagsKept s t

/-- R114. Rows: LD r,d8 (`ldBD8`, `ldCD8`, `ldDD8`, `ldED8`, `ldHD8`, `ldLD8`, `ldAD8`). -/
def Obligations.LoadRegisterImmediate : Prop :=
  ∀ (i : Instr) (dst : Reg8) (n : Byte) (s : State), i.form = .ld8Imm (.reg dst) n →
    Completes i [opcode (0x06 + 8 * dst.index), n] s fun t =>
      t.reg8 dst = n ∧ OnlyRegs s t [dst] 2 ∧ FlagsKept s t

/-- A load of A from `a` by `i`, of these bytes, or the fault of the read. -/
def LoadsA (i : Instr) (bytes : List Byte) (a : Word) (s : State) : Prop :=
  (∀ v, memRead8 s a = .ok v → Completes i bytes s fun t =>
    t.a = v ∧ OnlyRegs s t [.a] bytes.length ∧ FlagsKept s t) ∧
  ReadFaults i s (memRead8 s a)

/-- R116, R117, R120, R121, R123. Rows: `ldAMemBc`, `ldAMemDe`, `ldAMemA16`, `ldhAMemA8`, `ldAMemC`; the high-page
forms read 0xFF00 + the byte, which is RAM, so they always complete. -/
def Obligations.LoadAFromMemory : Prop :=
  ∀ s : State,
    LoadsA .ldAMemBc [0x0A#8] s.bc s ∧ LoadsA .ldAMemDe [0x1A#8] s.de s ∧
    (∀ a, LoadsA (.ldAMemA16 a) [0xFA#8, loByte a, hiByte a] a s) ∧
    (∀ n, LoadsA (.ldhAMemA8 n) [0xF0#8, n] (0xFF00#16 + n.setWidth 16) s ∧
      ∃ v, memRead8 s (0xFF00#16 + n.setWidth 16) = .ok v) ∧
    LoadsA .ldAMemC [0xF2#8] (0xFF00#16 + (s.reg8 .c).setWidth 16) s ∧
    ∃ v, memRead8 s (0xFF00#16 + (s.reg8 .c).setWidth 16) = .ok v

/-- A store of A to `a` by `i`, of these bytes. -/
def StoresA (i : Instr) (bytes : List Byte) (a : Word) (s : State) : Prop :=
  Completes i bytes s fun t =>
    StoredByte s t a s.a ∧ OnlyRegsAndMem s t [] bytes.length ∧ FlagsKept s t

/-- R118, R119, R122, R124, R125. Rows: `ldMemBcA`, `ldMemDeA`, `ldhMemA8A`, `ldMemCA`, `ldMemA16A`. -/
def Obligations.StoreAToMemory : Prop :=
  ∀ s : State, s.RamWf →
    StoresA .ldMemBcA [0x02#8] s.bc s ∧ StoresA .ldMemDeA [0x12#8] s.de s ∧
    (∀ n, StoresA (.ldhMemA8A n) [0xE0#8, n] (0xFF00#16 + n.setWidth 16) s) ∧
    StoresA .ldMemCA [0xE2#8] (0xFF00#16 + (s.reg8 .c).setWidth 16) s ∧
    ∀ a, StoresA (.ldMemA16A a) [0xEA#8, loByte a, hiByte a] a s

/-- R126 to R129. Rows: `ldMemHlIncA`, `ldAMemHlInc`, `ldMemHlDecA`, `ldAMemHlDec`: the access is at the old HL, which
then moves by one modulo 2^16; a failed read leaves HL alone, the fault ending the step. -/
def Obligations.LoadStoreAndMoveHl : Prop :=
  ∀ s : State,
    (s.RamWf →
      Completes .ldMemHlIncA [0x22#8] s (fun t => StoredByte s t s.hl s.a ∧ t.hl = s.hl + 1 ∧
        OnlyRegsAndMem s t [.h, .l] 1 ∧ FlagsKept s t) ∧
      Completes .ldMemHlDecA [0x32#8] s (fun t => StoredByte s t s.hl s.a ∧ t.hl = s.hl - 1 ∧
        OnlyRegsAndMem s t [.h, .l] 1 ∧ FlagsKept s t)) ∧
    (∀ v, memRead8 s s.hl = .ok v →
      Completes .ldAMemHlInc [0x2A#8] s (fun t => t.a = v ∧ t.hl = s.hl + 1 ∧
        OnlyRegs s t [.a, .h, .l] 1 ∧ FlagsKept s t) ∧
      Completes .ldAMemHlDec [0x3A#8] s (fun t => t.a = v ∧ t.hl = s.hl - 1 ∧
        OnlyRegs s t [.a, .h, .l] 1 ∧ FlagsKept s t)) ∧
    ReadFaults .ldAMemHlInc s (memRead8 s s.hl) ∧ ReadFaults .ldAMemHlDec s (memRead8 s s.hl)

/-! ### 16-bit loads and the stack -/

/-- The pair `p` became `v`, `pc` advanced by `len`, and nothing else changed but F, of which the caller speaks. -/
def WrotePair (s t : State) (p : Pair) (v : Word) (len : Nat) : Prop :=
  t.pair p = v ∧ (∀ q, q ≠ p → t.pair q = s.pair q) ∧ t.a = s.a ∧
    t.pc = s.pc + BitVec.ofNat 16 len ∧ CtlKept s t ∧ MemKept s t

/-- R141, R143. Rows: `ldBcD16`, `ldDeD16`, `ldHlD16`, `ldSpD16`, `ldSpHl`. -/
def Obligations.LoadPairs : Prop :=
  (∀ (i : Instr) (p : Pair) (n : Word) (s : State), i.form = .ldPairImm p n →
    Completes i [opcode (0x01 + 16 * p.index), loByte n, hiByte n] s fun t => WrotePair s t p n 3 ∧ FlagsKept s t) ∧
  ∀ s : State, Completes .ldSpHl [0xF9#8] s fun t => WrotePair s t .sp s.hl 1 ∧ FlagsKept s t

/-- R142. Row: `ldMemA16Sp`: the low byte of SP goes to the address, the high byte to the next. -/
def Obligations.StoreStackPointer : Prop :=
  ∀ (s : State) (a : Word), s.RamWf →
    Completes (.ldMemA16Sp a) [0x08#8, loByte a, hiByte a] s fun t =>
      StoredWord s t a s.sp ∧ OnlyRegsAndMem s t [] 3 ∧ FlagsKept s t

/-- R144, R193. Rows: `ldHlSpE8`, `addSpE8`: the sum is of SP and the sign-extended byte; H and C are those of the
unsigned byte added to SP's low byte. -/
def Obligations.StackPointerDisplacement : Prop :=
  ∀ (s : State) (e : Byte),
    let v := s.sp + e.signExtend 16
    let h := decide (s.sp.toNat % 16 + e.toNat % 16 > 0xF)
    let c := decide (s.sp.toNat % 256 + e.toNat > 0xFF)
    Completes (.ldHlSpE8 e) [0xF8#8, e] s (fun t => WrotePair s t .hl v 2 ∧ FlagsAre s t false false h c) ∧
    Completes (.addSpE8 e) [0xE8#8, e] s fun t => WrotePair s t .sp v 2 ∧ FlagsAre s t false false h c

/-- R145, R147, R148. Rows: `pushBc`, `pushDe`, `pushHl`, `pushAf`: SP falls by 2 and the word, AF with F[3:0] zero, is
stored at the new SP. -/
def Obligations.PushStoresPair : Prop :=
  ∀ (i : Instr) (p : StackPair) (s : State), s.RamWf → i.form = .push p →
    Completes i [opcode (0xC5 + 16 * p.index)] s fun t =>
      t.sp = s.sp - 2 ∧
      StoredWord s t (s.sp - 2) (if p = .af then s.af &&& 0xFFF0#16 else s.stackPair p) ∧
      RegsAndCtlKept s t ∧ t.pc = s.pc + 1

/-- R146, R149, R150. Rows: `popBc`, `popDe`, `popHl`, `popAf`: the pair takes the word at SP, the low byte of AF with
F[3:0] zero, and SP rises by 2; only AF changes F. -/
def Obligations.PopLoadsPair : Prop :=
  ∀ (i : Instr) (p : StackPair) (s : State), i.form = .pop p →
    (∀ lo hi : Byte, memRead8 s s.sp = .ok lo → memRead8 s (s.sp + 1) = .ok hi →
      Completes i [opcode (0xC1 + 16 * p.index)] s fun t =>
        t.stackPair p = (if p = .af then wordOf hi (lo &&& 0xF0#8) else wordOf hi lo) ∧
        (∀ q, q ≠ p → t.stackPair q = s.stackPair q) ∧
        t.sp = s.sp + 2 ∧ t.pc = s.pc + 1 ∧ CtlKept s t ∧ MemKept s t) ∧
    ReadFaults i s (memRead16 s s.sp)

/-- R145, R146, R148, R150: a PUSH onto two RAM bytes and then a POP of any pair gives that pair the pushed word, AF
with F[3:0] zero, and SP is as before the PUSH. -/
def Obligations.PushThenPopTransfersPair : Prop :=
  ∀ (i j : Instr) (p q : StackPair) (s : State), s.RamWf → i.form = .push p → j.form = .pop q →
    0x8000 ≤ (s.sp - 2).toNat → 0x8000 ≤ (s.sp - 1).toNat →
    ∃ t u, exec i s = .next t ∧ exec j t = .next u ∧ u.sp = s.sp ∧
      u.stackPair q =
        if p = .af ∨ q = .af then s.stackPair p &&& 0xFFF0#16 else s.stackPair p

/-! ### 8-bit arithmetic and logic -/

/-- The three operand forms of an accumulator operation (R160): the value, and the bytes. -/
def AluOperand (i : Instr) (op : AluOp) (s : State) (v : Byte) (bytes : List Byte) : Prop :=
  (∃ r, i.form = .alu op (.reg r) ∧ v = s.reg8 r ∧ bytes = [opcode (0x80 + 8 * op.index + r.index)]) ∨
  (i.form = .alu op .memHl ∧ memRead8 s s.hl = .ok v ∧ bytes = [opcode (0x86 + 8 * op.index)]) ∨
  (i.form = .aluImm op v ∧ bytes = [opcode (0xC6 + 8 * op.index), v])

/-- The `(HL)` form faults where its read does (R160). -/
def AluFaults (i : Instr) (op : AluOp) (s : State) : Prop :=
  i.form = .alu op .memHl → ReadFaults i s (memRead8 s s.hl)

/-- The instruction completes with this accumulator and these flags, and changes nothing else but `pc`. -/
def Accumulates (i : Instr) (bytes : List Byte) (s : State) (res : Byte) (z n h c : Bool) : Prop :=
  Completes i bytes s fun t => t.a = res ∧ FlagsAre s t z n h c ∧ OnlyRegs s t [.a] bytes.length

/-- R160, R161, R163, R164. Rows: ADD A,s and ADC A,s with s a register, (HL) or d8 (`addAB` to `addAA`, `addAMemHl`,
`addAD8`; `adcAB` to `adcAA`, `adcAMemHl`, `adcAD8`). -/
def Obligations.AddToAccumulator : Prop :=
  ∀ (i : Instr) (s : State) (v : Byte) (bytes : List Byte),
    let a := s.a.toNat
    (AluOperand i .add s v bytes →
      Accumulates i bytes s (BitVec.ofNat 8 (a + v.toNat)) (decide ((a + v.toNat) % 256 = 0)) false
        (decide (a % 16 + v.toNat % 16 > 0xF)) (decide (a + v.toNat > 0xFF))) ∧
    (AluOperand i .adc s v bytes →
      let cin := s.flagC.toNat
      Accumulates i bytes s (BitVec.ofNat 8 (a + v.toNat + cin)) (decide ((a + v.toNat + cin) % 256 = 0)) false
        (decide (a % 16 + v.toNat % 16 + cin > 0xF)) (decide (a + v.toNat + cin > 0xFF))) ∧
    AluFaults i .add s ∧ AluFaults i .adc s

/-- R160, R161, R165, R166, R170. Rows: SUB A,s, SBC A,s and CP A,s with s a register, (HL) or d8 (`subAB` to `subAD8`,
`sbcAB` to `sbcAD8`, `cpAB` to `cpAD8`). The result is the integer difference modulo 256; CP leaves A. -/
def Obligations.SubtractFromAccumulator : Prop :=
  ∀ (i : Instr) (s : State) (v : Byte) (bytes : List Byte),
    let a := s.a.toNat
    let cin := s.flagC.toNat
    (AluOperand i .sub s v bytes →
      Accumulates i bytes s (BitVec.ofInt 8 ((a : Int) - v.toNat)) (decide (a = v.toNat)) true
        (decide (a % 16 < v.toNat % 16)) (decide (a < v.toNat))) ∧
    (AluOperand i .sbc s v bytes →
      Accumulates i bytes s (BitVec.ofInt 8 ((a : Int) - v.toNat - cin))
        (decide (((a : Int) - v.toNat - cin) % 256 = 0)) true
        (decide (a % 16 < v.toNat % 16 + cin)) (decide (a < v.toNat + cin))) ∧
    (AluOperand i .cp s v bytes →
      Accumulates i bytes s s.a (decide (a = v.toNat)) true
        (decide (a % 16 < v.toNat % 16)) (decide (a < v.toNat))) ∧
    AluFaults i .sub s ∧ AluFaults i .sbc s ∧ AluFaults i .cp s

/-- R160, R167 to R169. Rows: AND A,s, XOR A,s and OR A,s with s a register, (HL) or d8 (`andAB` to `andAD8`, `xorAB` to
`xorAD8`, `orAB` to `orAD8`). The result is given bit by bit. -/
def Obligations.LogicOnAccumulator : Prop :=
  ∀ (i : Instr) (s : State) (v : Byte) (bytes : List Byte),
    (AluOperand i .and s v bytes → ∃ r : Byte, (∀ k, r.getLsbD k = (s.a.getLsbD k && v.getLsbD k)) ∧
      Accumulates i bytes s r (decide (r = 0)) false true false) ∧
    (AluOperand i .xor s v bytes → ∃ r : Byte, (∀ k, r.getLsbD k = (s.a.getLsbD k != v.getLsbD k)) ∧
      Accumulates i bytes s r (decide (r = 0)) false false false) ∧
    (AluOperand i .or s v bytes → ∃ r : Byte, (∀ k, r.getLsbD k = (s.a.getLsbD k || v.getLsbD k)) ∧
      Accumulates i bytes s r (decide (r = 0)) false false false) ∧
    AluFaults i .and s ∧ AluFaults i .xor s ∧ AluFaults i .or s

/-- R171, R172. Rows: INC r, INC (HL), DEC r, DEC (HL) (`incB` to `incA`, `incMemHl`; `decB` to `decA`, `decMemHl`).
Carry is kept. -/
def Obligations.IncDecOperand : Prop :=
  ∀ (i : Instr) (o : Opnd8) (s : State), s.RamWf →
    (∀ v, readOpnd s o = .ok v → i.form = .inc8 o → Completes i [opcode (0x04 + 8 * o.index)] s fun t =>
      WroteOpnd s t o (BitVec.ofNat 8 (v.toNat + 1)) 1 ∧
      FlagsAre s t (decide (v.toNat = 0xFF)) false (decide (v.toNat % 16 = 0xF)) s.flagC) ∧
    (∀ v, readOpnd s o = .ok v → i.form = .dec8 o → Completes i [opcode (0x05 + 8 * o.index)] s fun t =>
      WroteOpnd s t o (BitVec.ofNat 8 (v.toNat + 255)) 1 ∧
      FlagsAre s t (decide (v.toNat = 1)) true (decide (v.toNat % 16 = 0)) s.flagC) ∧
    (i.form = .inc8 o ∨ i.form = .dec8 o → ReadFaults i s (readOpnd s o))

/-- R173, read as the algorithm of its pseudocode. Row: `daa`. -/
def Obligations.DecimalAdjust : Prop :=
  ∀ s : State,
    let a := s.a.toNat
    let hi := if s.flagN then s.flagC else s.flagC || decide (a > 0x99)
    let lo := if s.flagN then s.flagH else s.flagH || decide (a % 16 > 9)
    let k : Int := (if hi then 0x60 else 0) + (if lo then 0x06 else 0)
    let r : Int := (if s.flagN then (a : Int) - k else a + k) % 256
    Accumulates .daa [0x27#8] s (BitVec.ofInt 8 r) (decide (r = 0)) s.flagN false hi

/-- A derived law of R163 and R173: for two packed decimal bytes, ADD then DAA leaves their decimal sum modulo 100,
with Carry the decimal carry. Rows: ADD A,d8 then `daa`. -/
def Obligations.DecimalAdjustAddsDecimals : Prop :=
  ∀ (s : State) (v : Byte), s.a.toNat % 16 ≤ 9 → s.a.toNat / 16 ≤ 9 → v.toNat % 16 ≤ 9 → v.toNat / 16 ≤ 9 →
    let dec := fun b : Byte => 10 * (b.toNat / 16) + b.toNat % 16
    ∃ t u, exec (.addAD8 v) s = .next t ∧ exec .daa t = .next u ∧
      dec u.a = (dec s.a + dec v) % 100 ∧ u.a.toNat % 16 ≤ 9 ∧ u.a.toNat / 16 ≤ 9 ∧
      u.flagC = decide (dec s.a + dec v ≥ 100)

/-- R174 to R176. Rows: `cpl`, `scf`, `ccf`. -/
def Obligations.ComplementAndCarry : Prop :=
  ∀ s : State,
    Accumulates .cpl [0x2F#8] s (BitVec.ofNat 8 (255 - s.a.toNat)) s.flagZ true true s.flagC ∧
    Accumulates .scf [0x37#8] s s.a s.flagZ false false true ∧
    Accumulates .ccf [0x3F#8] s s.a s.flagZ false false (!s.flagC)

/-! ### 16-bit arithmetic -/

/-- R190. Rows: `addHlBc`, `addHlDe`, `addHlHl`, `addHlSp`. Z is kept. -/
def Obligations.AddToHl : Prop :=
  ∀ (i : Instr) (p : Pair) (s : State), i.form = .addHl p →
    let x := s.hl.toNat
    let y := (s.pair p).toNat
    Completes i [opcode (0x09 + 16 * p.index)] s fun t =>
      WrotePair s t .hl (BitVec.ofNat 16 (x + y)) 1 ∧
      FlagsAre s t s.flagZ false (decide (x % 4096 + y % 4096 > 0xFFF)) (decide (x + y > 0xFFFF))

/-- R191, R192. Rows: `incBc`, `incDe`, `incHl`, `incSp`, `decBc`, `decDe`, `decHl`, `decSp`. -/
def Obligations.IncDecPair : Prop :=
  ∀ (i : Instr) (p : Pair) (s : State),
    (i.form = .incPair p → Completes i [opcode (0x03 + 16 * p.index)] s fun t =>
      WrotePair s t p (BitVec.ofNat 16 ((s.pair p).toNat + 1)) 1 ∧ FlagsKept s t) ∧
    (i.form = .decPair p → Completes i [opcode (0x0B + 16 * p.index)] s fun t =>
      WrotePair s t p (BitVec.ofNat 16 ((s.pair p).toNat + 0xFFFF)) 1 ∧ FlagsKept s t)

/-! ### Rotates, shifts and bit operations -/

/-- Bit `k` of a byte after a rotate or shift of `v`, and the Carry it leaves, by the vacated bit and the bit shifted
out of R205 to R212 (bit numbers below 8). -/
def rotatedBit (op : RotOp) (v : Byte) (cin : Bool) (k : Nat) : Bool :=
  match op with
  | .rlc => v.getLsbD ((k + 7) % 8)
  | .rrc => v.getLsbD ((k + 1) % 8)
  | .rl => if k = 0 then cin else v.getLsbD (k - 1)
  | .rr => if k = 7 then cin else v.getLsbD (k + 1)
  | .sla => if k = 0 then false else v.getLsbD (k - 1)
  | .sra => v.getLsbD (min (k + 1) 7)
  | .swap => v.getLsbD ((k + 4) % 8)
  | .srl => if k = 7 then false else v.getLsbD (k + 1)

/-- The bit shifted out (R205 to R212): bit 7 to the left, bit 0 to the right, none for SWAP. -/
def shiftedOut (op : RotOp) (v : Byte) : Bool :=
  match op with
  | .rlc | .rl | .sla => v.getLsbD 7
  | .rrc | .rr | .sra | .srl => v.getLsbD 0
  | .swap => false

/-- R200 to R203. Rows: `rlca`, `rla`, `rrca`, `rra`: Z is clear whatever the result. -/
def Obligations.RotateAccumulator : Prop :=
  ∀ (i : Instr) (s : State) (op : RotOp) (code : Byte),
    (i, op, code) ∈ [(Instr.rlca, RotOp.rlc, 0x07#8), (.rla, .rl, 0x17#8), (.rrca, .rrc, 0x0F#8), (.rra, .rr, 0x1F#8)] →
    ∃ r : Byte, (∀ k, k < 8 → r.getLsbD k = rotatedBit op s.a s.flagC k) ∧
      Accumulates i [code] s r false false false (shiftedOut op s.a)

/-- R204 to R212. Rows: the 64 rotates and shifts of the secondary table (`cbRlcB` to `cbSrlA`), on a register or (HL):
Z is computed. -/
def Obligations.RotateOperand : Prop :=
  ∀ (i : Instr) (op : RotOp) (o : Opnd8) (s : State), s.RamWf → i.form = .rot op o →
    (∀ v, readOpnd s o = .ok v → ∃ r : Byte, (∀ k, k < 8 → r.getLsbD k = rotatedBit op v s.flagC k) ∧
      Completes i [0xCB#8, opcode (8 * op.index + o.index)] s fun t =>
        WroteOpnd s t o r 2 ∧ FlagsAre s t (decide (r = 0)) false false (shiftedOut op v)) ∧
    ReadFaults i s (readOpnd s o)

/-- R204, R213. Rows: the 64 BIT n,r and BIT n,(HL) (`cbBit0B` to `cbBit7A`): nothing is written but F. -/
def Obligations.BitTestsOperand : Prop :=
  ∀ (i : Instr) (n : Fin 8) (o : Opnd8) (s : State), i.form = .bit n o →
    (∀ v, readOpnd s o = .ok v → Completes i [0xCB#8, opcode (0x40 + 8 * n.val + o.index)] s fun t =>
      OnlyRegs s t [] 2 ∧ FlagsAre s t (!v.getLsbD n.val) false true s.flagC) ∧
    ReadFaults i s (readOpnd s o)

/-- R204, R214, R215. Rows: the 64 RES (`cbRes0B` to `cbRes7A`) and the 64 SET (`cbSet0B` to `cbSet7A`): bit n becomes 0
or 1, every other bit and F are kept. -/
def Obligations.ResAndSetChangeOneBit : Prop :=
  ∀ (i : Instr) (n : Fin 8) (o : Opnd8) (s : State), s.RamWf →
    (∀ v, readOpnd s o = .ok v → i.form = .res n o → ∃ r : Byte, (∀ k, k < 8 → r.getLsbD k = (v.getLsbD k && k != n.val)) ∧
      Completes i [0xCB#8, opcode (0x80 + 8 * n.val + o.index)] s fun t => WroteOpnd s t o r 2 ∧ FlagsKept s t) ∧
    (∀ v, readOpnd s o = .ok v → i.form = .set n o → ∃ r : Byte, (∀ k, k < 8 → r.getLsbD k = (v.getLsbD k || k == n.val)) ∧
      Completes i [0xCB#8, opcode (0xC0 + 8 * n.val + o.index)] s fun t => WroteOpnd s t o r 2 ∧ FlagsKept s t) ∧
    (i.form = .res n o ∨ i.form = .set n o → ReadFaults i s (readOpnd s o))

/-- R263. Row: `prefixCb`, the escape, which is no instruction of its own: it runs as the instruction that its second
byte selects, to which its two bytes decode, and completes where that one does. The constructor is the model's
(log entry 10). -/
def Obligations.EscapeRunsSecondaryTable : Prop :=
  ∀ (o : Byte) (s : State),
    decode [0xCB#8, o] = .ok (decodeCb o, []) ∧ exec (.prefixCb o) s = exec (decodeCb o) s ∧
    encode (.prefixCb o) = encode (decodeCb o) ∧
    ((o.toNat % 8 = 6 → ∃ v, memRead8 s s.hl = .ok v) → ∃ t, exec (.prefixCb o) s = .next t)

/-! ### Control transfer -/

/-- Only `pc` changed, to `target`. -/
def OnlyJumps (s t : State) (target : Word) : Prop :=
  t.pc = target ∧ RegsAndCtlKept s t ∧ t.sp = s.sp ∧ MemKept s t

/-- R87, R230, R231 to R233. Rows: `jpA16`, `jpMemHl`, `jpNzA16`, `jpZA16`, `jpNcA16`, `jpCA16`: targets are absolute,
and a jump not taken advances by its length. -/
def Obligations.AbsoluteJumps : Prop :=
  (∀ (s : State) (a : Word),
    Completes (.jpA16 a) [0xC3#8, loByte a, hiByte a] s (fun t => OnlyJumps s t a) ∧
    Completes .jpMemHl [0xE9#8] s fun t => OnlyJumps s t s.hl) ∧
  ∀ (i : Instr) (cc : Cond) (a : Word) (s : State), i.form = .jpCond cc a →
    Completes i [opcode (0xC2 + 8 * cc.index), loByte a, hiByte a] s fun t =>
      (condHolds s cc → OnlyJumps s t a) ∧ (¬ condHolds s cc → OnlyJumps s t (s.pc + 3))

/-- R87, R234, R235. Rows: `jrE8`, `jrNzE8`, `jrZE8`, `jrNcE8`, `jrCE8`: relative to the next instruction, modulo 2^16;
the target is given by integer arithmetic. -/
def Obligations.RelativeJumps : Prop :=
  ∀ (s : State) (e : Byte),
    let target := BitVec.ofInt 16 ((s.pc.toNat : Int) + 2 + e.toInt)
    Completes (.jrE8 e) [0x18#8, e] s (fun t => OnlyJumps s t target) ∧
    ∀ (i : Instr) (cc : Cond), i.form = .jrCond cc e →
      Completes i [opcode (0x20 + 8 * cc.index), e] s fun t =>
        (condHolds s cc → OnlyJumps s t target) ∧ (¬ condHolds s cc → OnlyJumps s t (s.pc + 2))

/-- A call: SP falls by 2, the return address is stored there, and `pc` is the target. -/
def Calls (s t : State) (ret target : Word) : Prop :=
  t.sp = s.sp - 2 ∧ StoredWord s t (s.sp - 2) ret ∧ RegsAndCtlKept s t ∧ t.pc = target

/-- R87, R236, R237, R241. Rows: `callA16`, `callNzA16`, `callZA16`, `callNcA16`, `callCA16`, `rst00` to `rst38`. -/
def Obligations.CallsPushReturnAddress : Prop :=
  (∀ (s : State) (a : Word), s.RamWf →
    Completes (.callA16 a) [0xCD#8, loByte a, hiByte a] s fun t => Calls s t (s.pc + 3) a) ∧
  (∀ (i : Instr) (cc : Cond) (a : Word) (s : State), s.RamWf → i.form = .callCond cc a →
    Completes i [opcode (0xC4 + 8 * cc.index), loByte a, hiByte a] s fun t =>
      (condHolds s cc → Calls s t (s.pc + 3) a) ∧ (¬ condHolds s cc → OnlyJumps s t (s.pc + 3))) ∧
  ∀ (i : Instr) (k : Fin 8) (s : State), s.RamWf → i.form = .rst k →
    Completes i [opcode (0xC7 + 8 * k.val)] s fun t => Calls s t (s.pc + 1) (BitVec.ofNat 16 (8 * k.val))

/-- A return: `pc` is the word at SP, and SP rises by 2. -/
def Returns (s t : State) (lo hi : Byte) : Prop :=
  t.pc = wordOf hi lo ∧ t.sp = s.sp + 2 ∧ RegsKept s t [] ∧ FlagsKept s t ∧ t.runState = s.runState ∧
    t.cyc = s.cyc ∧ MemKept s t

/-- R87, R238 to R240. Rows: `ret`, `reti`, `retNz`, `retZ`, `retNc`, `retC`; RETI sets `ime` in the same step, and a
RET cc not taken reads no memory. -/
def Obligations.ReturnsPopAddress : Prop :=
  (∀ (s : State) (lo hi : Byte), memRead8 s s.sp = .ok lo → memRead8 s (s.sp + 1) = .ok hi →
    Completes .ret [0xC9#8] s (fun t => Returns s t lo hi ∧ t.ime = s.ime) ∧
    Completes .reti [0xD9#8] s (fun t => Returns s t lo hi ∧ t.ime = true) ∧
    ∀ (i : Instr) (cc : Cond), i.form = .retCond cc → condHolds s cc →
      Completes i [opcode (0xC0 + 8 * cc.index)] s fun t => Returns s t lo hi ∧ t.ime = s.ime) ∧
  (∀ s : State, ReadFaults .ret s (memRead16 s s.sp) ∧ ReadFaults .reti s (memRead16 s s.sp) ∧
    ∀ (i : Instr) (cc : Cond), i.form = .retCond cc → condHolds s cc → ReadFaults i s (memRead16 s s.sp)) ∧
  ∀ (i : Instr) (cc : Cond) (s : State), i.form = .retCond cc → ¬ condHolds s cc →
    Completes i [opcode (0xC0 + 8 * cc.index)] s fun t => OnlyJumps s t (s.pc + 1)

/-- R242: a CALL whose word lands in RAM; then, from any state that keeps SP and that word, a RET comes back behind
the CALL with SP as it was. Rows: `callA16`, `ret`. -/
def Obligations.ReturnUndoesCall : Prop :=
  ∀ (s : State) (a : Word), s.RamWf → 0x8000 ≤ (s.sp - 2).toNat → 0x8000 ≤ (s.sp - 1).toNat →
    ∃ t, exec (.callA16 a) s = .next t ∧ t.sp = s.sp - 2 ∧ memRead16 t (s.sp - 2) = .ok (s.pc + 3) ∧ t.pc = a ∧
      ∀ u : State, u.sp = t.sp → memRead16 u u.sp = memRead16 t t.sp →
        ∃ w, exec .ret u = .next w ∧ w.pc = s.pc + 3 ∧ w.sp = s.sp

/-! ### System instructions -/

/-- R260 to R262, R264, R265. Rows: `nop`, `halt`, `stop`, `di`, `ei`: nothing changes but `pc` and the one component
named; STOP's second byte is ignored; HALT neither reads nor changes `ime`. -/
def Obligations.SystemInstructions : Prop :=
  ∀ (s : State) (i : Instr) (n : Byte),
    (i = .nop → encode i = [0x00#8] ∧ exec i s = .next { s with pc := s.pc + 1 }) ∧
    (i = .halt → encode i = [0x76#8] ∧ exec i s = .next { s with pc := s.pc + 1, runState := .halted }) ∧
    (i = .stop n → encode i = [0x10#8, n] ∧ exec i s = .next { s with pc := s.pc + 2, runState := .stopped }) ∧
    (i = .di → encode i = [0xF3#8] ∧ exec i s = .next { s with pc := s.pc + 1, ime := false }) ∧
    (i = .ei → encode i = [0xFB#8] ∧ exec i s = .next { s with pc := s.pc + 1, ime := true })

/-- R261, R262, R288: after HALT or STOP every step is an idle step, whatever `ime` is, until `WAKE`, which is then
available, resumes the core, and changes nothing else. That `WAKE` is a function beside `step` is the model's choice (log entry 7).
Rows: `halt`, `stop`. -/
def Obligations.HaltAndStopPauseUntilWake : Prop :=
  ∀ (i : Instr) (s : State), i = .halt ∨ (∃ n, i = .stop n) →
    ∃ t, exec i s = .next t ∧ t.runState ≠ .running ∧ ∀ (ime : Bool) (c : Nat),
      step { t with ime := ime, cyc := c } = .next { t with ime := ime, cyc := c + t.params.durIdle } ∧
      State.envMove { t with ime := ime, cyc := c } .wake =
        some { t with ime := ime, cyc := c, runState := .running }
end

