-- ==== Sys2Proof/Laws/State.lean ====
section
/-! SUPPORT. The fields and the accessors of a state after each named update, one lemma each, so that no proof unfolds
a record update. -/

namespace Sys2Proof.Machine

variable (s : State)

/-! ### Bytes and words -/

@[simp] theorem hiByte_wordOf (h l : Byte) : hiByte (wordOf h l) = h := by
  ext i hi; simp [hiByte, wordOf, BitVec.getElem_extractLsb']; rw [BitVec.getLsbD_append]; simp [BitVec.getLsbD_eq_getElem hi]

@[simp] theorem loByte_wordOf (h l : Byte) : loByte (wordOf h l) = l := by
  ext i hi; simp [loByte, wordOf, BitVec.getElem_extractLsb']; rw [BitVec.getLsbD_append]; simp [hi]

@[simp] theorem hiByte_setHi (w : Word) (v : Byte) : hiByte (setHi w v) = v := hiByte_wordOf _ _
@[simp] theorem loByte_setHi (w : Word) (v : Byte) : loByte (setHi w v) = loByte w := loByte_wordOf _ _
@[simp] theorem hiByte_setLo (w : Word) (v : Byte) : hiByte (setLo w v) = hiByte w := hiByte_wordOf _ _
@[simp] theorem loByte_setLo (w : Word) (v : Byte) : loByte (setLo w v) = v := loByte_wordOf _ _

theorem loByte_toNat (w : Word) : (loByte w).toNat = w.toNat % 256 := by
  simp [loByte, BitVec.extractLsb'_toNat]

theorem hiByte_toNat (w : Word) : (hiByte w).toNat = w.toNat / 256 := by
  have := w.isLt
  simp only [hiByte, BitVec.extractLsb'_toNat, Nat.shiftRight_eq_div_pow]
  omega

theorem wordOf_toNat (h l : Byte) : (wordOf h l).toNat = 256 * h.toNat + l.toNat := by
  have := l.isLt
  simp only [wordOf, BitVec.toNat_append, Nat.shiftLeft_eq]
  rw [← Nat.shiftLeft_eq, ← Nat.shiftLeft_add_eq_or_of_lt this, Nat.shiftLeft_eq]
  omega

@[simp] theorem wordOf_hiByte_loByte (w : Word) : wordOf (hiByte w) (loByte w) = w := by
  apply BitVec.eq_of_toNat_eq
  simp only [wordOf_toNat, hiByte_toNat, loByte_toNat]
  omega

theorem getLsbD_loByte (w : Word) {k : Nat} (h : k < 8) : (loByte w).getLsbD k = w.getLsbD k := by
  simp [loByte, h]

/-! ### Fields after an update -/
@[simp] theorem jump_af (v : Word) : (s.jump v).af = s.af := rfl
@[simp] theorem jump_bc (v : Word) : (s.jump v).bc = s.bc := rfl
@[simp] theorem jump_de (v : Word) : (s.jump v).de = s.de := rfl
@[simp] theorem jump_hl (v : Word) : (s.jump v).hl = s.hl := rfl
@[simp] theorem jump_sp (v : Word) : (s.jump v).sp = s.sp := rfl
@[simp] theorem jump_pc (v : Word) : (s.jump v).pc = v := rfl
@[simp] theorem jump_ime (v : Word) : (s.jump v).ime = s.ime := rfl
@[simp] theorem jump_runState (v : Word) : (s.jump v).runState = s.runState := rfl
@[simp] theorem jump_cyc (v : Word) : (s.jump v).cyc = s.cyc := rfl
@[simp] theorem jump_bankBase (v : Word) : (s.jump v).bankBase = s.bankBase := rfl
@[simp] theorem jump_ram (v : Word) : (s.jump v).ram = s.ram := rfl
@[simp] theorem jump_rom (v : Word) : (s.jump v).rom = s.rom := rfl
@[simp] theorem jump_romSize (v : Word) : (s.jump v).romSize = s.romSize := rfl
@[simp] theorem jump_params (v : Word) : (s.jump v).params = s.params := rfl

@[simp] theorem advance_af (n : Nat) : (s.advance n).af = s.af := rfl
@[simp] theorem advance_bc (n : Nat) : (s.advance n).bc = s.bc := rfl
@[simp] theorem advance_de (n : Nat) : (s.advance n).de = s.de := rfl
@[simp] theorem advance_hl (n : Nat) : (s.advance n).hl = s.hl := rfl
@[simp] theorem advance_sp (n : Nat) : (s.advance n).sp = s.sp := rfl
@[simp] theorem advance_pc (n : Nat) : (s.advance n).pc = s.pc + BitVec.ofNat 16 n := rfl
@[simp] theorem advance_ime (n : Nat) : (s.advance n).ime = s.ime := rfl
@[simp] theorem advance_runState (n : Nat) : (s.advance n).runState = s.runState := rfl
@[simp] theorem advance_cyc (n : Nat) : (s.advance n).cyc = s.cyc := rfl
@[simp] theorem advance_bankBase (n : Nat) : (s.advance n).bankBase = s.bankBase := rfl
@[simp] theorem advance_ram (n : Nat) : (s.advance n).ram = s.ram := rfl
@[simp] theorem advance_rom (n : Nat) : (s.advance n).rom = s.rom := rfl
@[simp] theorem advance_romSize (n : Nat) : (s.advance n).romSize = s.romSize := rfl
@[simp] theorem advance_params (n : Nat) : (s.advance n).params = s.params := rfl

@[simp] theorem popped_af : (s.popped).af = s.af := rfl
@[simp] theorem popped_bc : (s.popped).bc = s.bc := rfl
@[simp] theorem popped_de : (s.popped).de = s.de := rfl
@[simp] theorem popped_hl : (s.popped).hl = s.hl := rfl
@[simp] theorem popped_sp : (s.popped).sp = s.sp + 2 := rfl
@[simp] theorem popped_pc : (s.popped).pc = s.pc := rfl
@[simp] theorem popped_ime : (s.popped).ime = s.ime := rfl
@[simp] theorem popped_runState : (s.popped).runState = s.runState := rfl
@[simp] theorem popped_cyc : (s.popped).cyc = s.cyc := rfl
@[simp] theorem popped_bankBase : (s.popped).bankBase = s.bankBase := rfl
@[simp] theorem popped_ram : (s.popped).ram = s.ram := rfl
@[simp] theorem popped_rom : (s.popped).rom = s.rom := rfl
@[simp] theorem popped_romSize : (s.popped).romSize = s.romSize := rfl
@[simp] theorem popped_params : (s.popped).params = s.params := rfl

@[simp] theorem addCycles_af (d : Nat) : (s.addCycles d).af = s.af := rfl
@[simp] theorem addCycles_bc (d : Nat) : (s.addCycles d).bc = s.bc := rfl
@[simp] theorem addCycles_de (d : Nat) : (s.addCycles d).de = s.de := rfl
@[simp] theorem addCycles_hl (d : Nat) : (s.addCycles d).hl = s.hl := rfl
@[simp] theorem addCycles_sp (d : Nat) : (s.addCycles d).sp = s.sp := rfl
@[simp] theorem addCycles_pc (d : Nat) : (s.addCycles d).pc = s.pc := rfl
@[simp] theorem addCycles_ime (d : Nat) : (s.addCycles d).ime = s.ime := rfl
@[simp] theorem addCycles_runState (d : Nat) : (s.addCycles d).runState = s.runState := rfl
@[simp] theorem addCycles_cyc (d : Nat) : (s.addCycles d).cyc = s.cyc + d := rfl
@[simp] theorem addCycles_bankBase (d : Nat) : (s.addCycles d).bankBase = s.bankBase := rfl
@[simp] theorem addCycles_ram (d : Nat) : (s.addCycles d).ram = s.ram := rfl
@[simp] theorem addCycles_rom (d : Nat) : (s.addCycles d).rom = s.rom := rfl
@[simp] theorem addCycles_romSize (d : Nat) : (s.addCycles d).romSize = s.romSize := rfl
@[simp] theorem addCycles_params (d : Nat) : (s.addCycles d).params = s.params := rfl

@[simp] theorem setReg8_sp (r : Reg8) (v : Byte) : (s.setReg8 r v).sp = s.sp := by cases r <;> rfl
@[simp] theorem setReg8_pc (r : Reg8) (v : Byte) : (s.setReg8 r v).pc = s.pc := by cases r <;> rfl
@[simp] theorem setReg8_ime (r : Reg8) (v : Byte) : (s.setReg8 r v).ime = s.ime := by cases r <;> rfl
@[simp] theorem setReg8_runState (r : Reg8) (v : Byte) : (s.setReg8 r v).runState = s.runState := by cases r <;> rfl
@[simp] theorem setReg8_cyc (r : Reg8) (v : Byte) : (s.setReg8 r v).cyc = s.cyc := by cases r <;> rfl
@[simp] theorem setReg8_bankBase (r : Reg8) (v : Byte) : (s.setReg8 r v).bankBase = s.bankBase := by cases r <;> rfl
@[simp] theorem setReg8_ram (r : Reg8) (v : Byte) : (s.setReg8 r v).ram = s.ram := by cases r <;> rfl
@[simp] theorem setReg8_rom (r : Reg8) (v : Byte) : (s.setReg8 r v).rom = s.rom := by cases r <;> rfl
@[simp] theorem setReg8_romSize (r : Reg8) (v : Byte) : (s.setReg8 r v).romSize = s.romSize := by cases r <;> rfl
@[simp] theorem setReg8_params (r : Reg8) (v : Byte) : (s.setReg8 r v).params = s.params := by cases r <;> rfl

@[simp] theorem setPair_af (p : Pair) (v : Word) : (s.setPair p v).af = s.af := by cases p <;> rfl
@[simp] theorem setPair_pc (p : Pair) (v : Word) : (s.setPair p v).pc = s.pc := by cases p <;> rfl
@[simp] theorem setPair_ime (p : Pair) (v : Word) : (s.setPair p v).ime = s.ime := by cases p <;> rfl
@[simp] theorem setPair_runState (p : Pair) (v : Word) : (s.setPair p v).runState = s.runState := by cases p <;> rfl
@[simp] theorem setPair_cyc (p : Pair) (v : Word) : (s.setPair p v).cyc = s.cyc := by cases p <;> rfl
@[simp] theorem setPair_bankBase (p : Pair) (v : Word) : (s.setPair p v).bankBase = s.bankBase := by cases p <;> rfl
@[simp] theorem setPair_ram (p : Pair) (v : Word) : (s.setPair p v).ram = s.ram := by cases p <;> rfl
@[simp] theorem setPair_rom (p : Pair) (v : Word) : (s.setPair p v).rom = s.rom := by cases p <;> rfl
@[simp] theorem setPair_romSize (p : Pair) (v : Word) : (s.setPair p v).romSize = s.romSize := by cases p <;> rfl
@[simp] theorem setPair_params (p : Pair) (v : Word) : (s.setPair p v).params = s.params := by cases p <;> rfl

@[simp] theorem setStackPair_sp (p : StackPair) (v : Word) : (s.setStackPair p v).sp = s.sp := by cases p <;> rfl
@[simp] theorem setStackPair_pc (p : StackPair) (v : Word) : (s.setStackPair p v).pc = s.pc := by cases p <;> rfl
@[simp] theorem setStackPair_ime (p : StackPair) (v : Word) : (s.setStackPair p v).ime = s.ime := by cases p <;> rfl
@[simp] theorem setStackPair_runState (p : StackPair) (v : Word) : (s.setStackPair p v).runState = s.runState := by cases p <;> rfl
@[simp] theorem setStackPair_cyc (p : StackPair) (v : Word) : (s.setStackPair p v).cyc = s.cyc := by cases p <;> rfl
@[simp] theorem setStackPair_bankBase (p : StackPair) (v : Word) : (s.setStackPair p v).bankBase = s.bankBase := by cases p <;> rfl
@[simp] theorem setStackPair_ram (p : StackPair) (v : Word) : (s.setStackPair p v).ram = s.ram := by cases p <;> rfl
@[simp] theorem setStackPair_rom (p : StackPair) (v : Word) : (s.setStackPair p v).rom = s.rom := by cases p <;> rfl
@[simp] theorem setStackPair_romSize (p : StackPair) (v : Word) : (s.setStackPair p v).romSize = s.romSize := by cases p <;> rfl
@[simp] theorem setStackPair_params (p : StackPair) (v : Word) : (s.setStackPair p v).params = s.params := by cases p <;> rfl

@[simp] theorem setFlags_af (z n h c : Bool) : (s.setFlags z n h c).af = setLo s.af (flagsByte z n h c s.f) := rfl
@[simp] theorem setFlags_bc (z n h c : Bool) : (s.setFlags z n h c).bc = s.bc := rfl
@[simp] theorem setFlags_de (z n h c : Bool) : (s.setFlags z n h c).de = s.de := rfl
@[simp] theorem setFlags_hl (z n h c : Bool) : (s.setFlags z n h c).hl = s.hl := rfl
@[simp] theorem setFlags_sp (z n h c : Bool) : (s.setFlags z n h c).sp = s.sp := rfl
@[simp] theorem setFlags_pc (z n h c : Bool) : (s.setFlags z n h c).pc = s.pc := rfl
@[simp] theorem setFlags_ime (z n h c : Bool) : (s.setFlags z n h c).ime = s.ime := rfl
@[simp] theorem setFlags_runState (z n h c : Bool) : (s.setFlags z n h c).runState = s.runState := rfl
@[simp] theorem setFlags_cyc (z n h c : Bool) : (s.setFlags z n h c).cyc = s.cyc := rfl
@[simp] theorem setFlags_bankBase (z n h c : Bool) : (s.setFlags z n h c).bankBase = s.bankBase := rfl
@[simp] theorem setFlags_ram (z n h c : Bool) : (s.setFlags z n h c).ram = s.ram := rfl
@[simp] theorem setFlags_rom (z n h c : Bool) : (s.setFlags z n h c).rom = s.rom := rfl
@[simp] theorem setFlags_romSize (z n h c : Bool) : (s.setFlags z n h c).romSize = s.romSize := rfl
@[simp] theorem setFlags_params (z n h c : Bool) : (s.setFlags z n h c).params = s.params := rfl

@[simp] theorem selectBank_af (v : Byte) : (selectBank s v).af = s.af := by unfold selectBank; split <;> rfl
@[simp] theorem selectBank_bc (v : Byte) : (selectBank s v).bc = s.bc := by unfold selectBank; split <;> rfl
@[simp] theorem selectBank_de (v : Byte) : (selectBank s v).de = s.de := by unfold selectBank; split <;> rfl
@[simp] theorem selectBank_hl (v : Byte) : (selectBank s v).hl = s.hl := by unfold selectBank; split <;> rfl
@[simp] theorem selectBank_sp (v : Byte) : (selectBank s v).sp = s.sp := by unfold selectBank; split <;> rfl
@[simp] theorem selectBank_pc (v : Byte) : (selectBank s v).pc = s.pc := by unfold selectBank; split <;> rfl
@[simp] theorem selectBank_ime (v : Byte) : (selectBank s v).ime = s.ime := by unfold selectBank; split <;> rfl
@[simp] theorem selectBank_runState (v : Byte) : (selectBank s v).runState = s.runState := by unfold selectBank; split <;> rfl
@[simp] theorem selectBank_cyc (v : Byte) : (selectBank s v).cyc = s.cyc := by unfold selectBank; split <;> rfl
@[simp] theorem selectBank_ram (v : Byte) : (selectBank s v).ram = s.ram := by unfold selectBank; split <;> rfl
@[simp] theorem selectBank_rom (v : Byte) : (selectBank s v).rom = s.rom := by unfold selectBank; split <;> rfl
@[simp] theorem selectBank_romSize (v : Byte) : (selectBank s v).romSize = s.romSize := by unfold selectBank; split <;> rfl
@[simp] theorem selectBank_params (v : Byte) : (selectBank s v).params = s.params := by unfold selectBank; split <;> rfl

@[simp] theorem memWrite8_af (a : Word) (v : Byte) : (memWrite8 s a v).af = s.af := by unfold memWrite8; split_ifs <;> simp
@[simp] theorem memWrite8_bc (a : Word) (v : Byte) : (memWrite8 s a v).bc = s.bc := by unfold memWrite8; split_ifs <;> simp
@[simp] theorem memWrite8_de (a : Word) (v : Byte) : (memWrite8 s a v).de = s.de := by unfold memWrite8; split_ifs <;> simp
@[simp] theorem memWrite8_hl (a : Word) (v : Byte) : (memWrite8 s a v).hl = s.hl := by unfold memWrite8; split_ifs <;> simp
@[simp] theorem memWrite8_sp (a : Word) (v : Byte) : (memWrite8 s a v).sp = s.sp := by unfold memWrite8; split_ifs <;> simp
@[simp] theorem memWrite8_pc (a : Word) (v : Byte) : (memWrite8 s a v).pc = s.pc := by unfold memWrite8; split_ifs <;> simp
@[simp] theorem memWrite8_ime (a : Word) (v : Byte) : (memWrite8 s a v).ime = s.ime := by unfold memWrite8; split_ifs <;> simp
@[simp] theorem memWrite8_runState (a : Word) (v : Byte) : (memWrite8 s a v).runState = s.runState := by unfold memWrite8; split_ifs <;> simp
@[simp] theorem memWrite8_cyc (a : Word) (v : Byte) : (memWrite8 s a v).cyc = s.cyc := by unfold memWrite8; split_ifs <;> simp
@[simp] theorem memWrite8_rom (a : Word) (v : Byte) : (memWrite8 s a v).rom = s.rom := by unfold memWrite8; split_ifs <;> simp
@[simp] theorem memWrite8_romSize (a : Word) (v : Byte) : (memWrite8 s a v).romSize = s.romSize := by unfold memWrite8; split_ifs <;> simp
@[simp] theorem memWrite8_params (a : Word) (v : Byte) : (memWrite8 s a v).params = s.params := by unfold memWrite8; split_ifs <;> simp

@[simp] theorem memWrite16_af (a v : Word) : (memWrite16 s a v).af = s.af := by simp [memWrite16]
@[simp] theorem memWrite16_bc (a v : Word) : (memWrite16 s a v).bc = s.bc := by simp [memWrite16]
@[simp] theorem memWrite16_de (a v : Word) : (memWrite16 s a v).de = s.de := by simp [memWrite16]
@[simp] theorem memWrite16_hl (a v : Word) : (memWrite16 s a v).hl = s.hl := by simp [memWrite16]
@[simp] theorem memWrite16_sp (a v : Word) : (memWrite16 s a v).sp = s.sp := by simp [memWrite16]
@[simp] theorem memWrite16_pc (a v : Word) : (memWrite16 s a v).pc = s.pc := by simp [memWrite16]
@[simp] theorem memWrite16_ime (a v : Word) : (memWrite16 s a v).ime = s.ime := by simp [memWrite16]
@[simp] theorem memWrite16_runState (a v : Word) : (memWrite16 s a v).runState = s.runState := by simp [memWrite16]
@[simp] theorem memWrite16_cyc (a v : Word) : (memWrite16 s a v).cyc = s.cyc := by simp [memWrite16]
@[simp] theorem memWrite16_rom (a v : Word) : (memWrite16 s a v).rom = s.rom := by simp [memWrite16]
@[simp] theorem memWrite16_romSize (a v : Word) : (memWrite16 s a v).romSize = s.romSize := by simp [memWrite16]
@[simp] theorem memWrite16_params (a v : Word) : (memWrite16 s a v).params = s.params := by simp [memWrite16]

@[simp] theorem push16_af (v : Word) : (push16 s v).af = s.af := by simp [push16]
@[simp] theorem push16_bc (v : Word) : (push16 s v).bc = s.bc := by simp [push16]
@[simp] theorem push16_de (v : Word) : (push16 s v).de = s.de := by simp [push16]
@[simp] theorem push16_hl (v : Word) : (push16 s v).hl = s.hl := by simp [push16]
@[simp] theorem push16_pc (v : Word) : (push16 s v).pc = s.pc := by simp [push16]
@[simp] theorem push16_ime (v : Word) : (push16 s v).ime = s.ime := by simp [push16]
@[simp] theorem push16_runState (v : Word) : (push16 s v).runState = s.runState := by simp [push16]
@[simp] theorem push16_cyc (v : Word) : (push16 s v).cyc = s.cyc := by simp [push16]
@[simp] theorem push16_rom (v : Word) : (push16 s v).rom = s.rom := by simp [push16]
@[simp] theorem push16_romSize (v : Word) : (push16 s v).romSize = s.romSize := by simp [push16]
@[simp] theorem push16_params (v : Word) : (push16 s v).params = s.params := by simp [push16]
@[simp] theorem push16_sp (v : Word) : (push16 s v).sp = s.sp - 2 := by simp [push16]

/-! ### Registers and flags after an update -/

theorem reg8_congr {s t : State} (ha : t.af = s.af) (hb : t.bc = s.bc) (hd : t.de = s.de) (hh : t.hl = s.hl)
    (r : Reg8) : t.reg8 r = s.reg8 r := by
  cases r <;> simp [State.reg8, ha, hb, hd, hh]

@[simp] theorem jump_reg8 (v : Word) (r : Reg8) : (s.jump v).reg8 r = s.reg8 r := reg8_congr (by simp) (by simp) (by simp) (by simp) r
@[simp] theorem jump_a (v : Word) : (s.jump v).a = s.a := by simp [State.a]
@[simp] theorem jump_f (v : Word) : (s.jump v).f = s.f := by simp [State.f]
@[simp] theorem jump_flagZ (v : Word) : (s.jump v).flagZ = s.flagZ := by simp [State.flagZ]
@[simp] theorem jump_flagN (v : Word) : (s.jump v).flagN = s.flagN := by simp [State.flagN]
@[simp] theorem jump_flagH (v : Word) : (s.jump v).flagH = s.flagH := by simp [State.flagH]
@[simp] theorem jump_flagC (v : Word) : (s.jump v).flagC = s.flagC := by simp [State.flagC]

@[simp] theorem advance_reg8 (n : Nat) (r : Reg8) : (s.advance n).reg8 r = s.reg8 r := reg8_congr (by simp) (by simp) (by simp) (by simp) r
@[simp] theorem advance_a (n : Nat) : (s.advance n).a = s.a := by simp [State.a]
@[simp] theorem advance_f (n : Nat) : (s.advance n).f = s.f := by simp [State.f]
@[simp] theorem advance_flagZ (n : Nat) : (s.advance n).flagZ = s.flagZ := by simp [State.flagZ]
@[simp] theorem advance_flagN (n : Nat) : (s.advance n).flagN = s.flagN := by simp [State.flagN]
@[simp] theorem advance_flagH (n : Nat) : (s.advance n).flagH = s.flagH := by simp [State.flagH]
@[simp] theorem advance_flagC (n : Nat) : (s.advance n).flagC = s.flagC := by simp [State.flagC]

@[simp] theorem popped_reg8 (r : Reg8) : (s.popped).reg8 r = s.reg8 r := reg8_congr (by simp) (by simp) (by simp) (by simp) r
@[simp] theorem popped_a : (s.popped).a = s.a := by simp [State.a]
@[simp] theorem popped_f : (s.popped).f = s.f := by simp [State.f]
@[simp] theorem popped_flagZ : (s.popped).flagZ = s.flagZ := by simp [State.flagZ]
@[simp] theorem popped_flagN : (s.popped).flagN = s.flagN := by simp [State.flagN]
@[simp] theorem popped_flagH : (s.popped).flagH = s.flagH := by simp [State.flagH]
@[simp] theorem popped_flagC : (s.popped).flagC = s.flagC := by simp [State.flagC]

@[simp] theorem addCycles_reg8 (d : Nat) (r : Reg8) : (s.addCycles d).reg8 r = s.reg8 r := reg8_congr (by simp) (by simp) (by simp) (by simp) r
@[simp] theorem addCycles_a (d : Nat) : (s.addCycles d).a = s.a := by simp [State.a]
@[simp] theorem addCycles_f (d : Nat) : (s.addCycles d).f = s.f := by simp [State.f]
@[simp] theorem addCycles_flagZ (d : Nat) : (s.addCycles d).flagZ = s.flagZ := by simp [State.flagZ]
@[simp] theorem addCycles_flagN (d : Nat) : (s.addCycles d).flagN = s.flagN := by simp [State.flagN]
@[simp] theorem addCycles_flagH (d : Nat) : (s.addCycles d).flagH = s.flagH := by simp [State.flagH]
@[simp] theorem addCycles_flagC (d : Nat) : (s.addCycles d).flagC = s.flagC := by simp [State.flagC]

@[simp] theorem selectBank_reg8 (v : Byte) (r : Reg8) : (selectBank s v).reg8 r = s.reg8 r := reg8_congr (by simp) (by simp) (by simp) (by simp) r
@[simp] theorem selectBank_a (v : Byte) : (selectBank s v).a = s.a := by simp [State.a]
@[simp] theorem selectBank_f (v : Byte) : (selectBank s v).f = s.f := by simp [State.f]
@[simp] theorem selectBank_flagZ (v : Byte) : (selectBank s v).flagZ = s.flagZ := by simp [State.flagZ]
@[simp] theorem selectBank_flagN (v : Byte) : (selectBank s v).flagN = s.flagN := by simp [State.flagN]
@[simp] theorem selectBank_flagH (v : Byte) : (selectBank s v).flagH = s.flagH := by simp [State.flagH]
@[simp] theorem selectBank_flagC (v : Byte) : (selectBank s v).flagC = s.flagC := by simp [State.flagC]

@[simp] theorem memWrite8_reg8 (a : Word) (v : Byte) (r : Reg8) : (memWrite8 s a v).reg8 r = s.reg8 r := reg8_congr (by simp) (by simp) (by simp) (by simp) r
@[simp] theorem memWrite8_a (a : Word) (v : Byte) : (memWrite8 s a v).a = s.a := by simp [State.a]
@[simp] theorem memWrite8_f (a : Word) (v : Byte) : (memWrite8 s a v).f = s.f := by simp [State.f]
@[simp] theorem memWrite8_flagZ (a : Word) (v : Byte) : (memWrite8 s a v).flagZ = s.flagZ := by simp [State.flagZ]
@[simp] theorem memWrite8_flagN (a : Word) (v : Byte) : (memWrite8 s a v).flagN = s.flagN := by simp [State.flagN]
@[simp] theorem memWrite8_flagH (a : Word) (v : Byte) : (memWrite8 s a v).flagH = s.flagH := by simp [State.flagH]
@[simp] theorem memWrite8_flagC (a : Word) (v : Byte) : (memWrite8 s a v).flagC = s.flagC := by simp [State.flagC]

@[simp] theorem memWrite16_reg8 (a v : Word) (r : Reg8) : (memWrite16 s a v).reg8 r = s.reg8 r := reg8_congr (by simp) (by simp) (by simp) (by simp) r
@[simp] theorem memWrite16_a (a v : Word) : (memWrite16 s a v).a = s.a := by simp [State.a]
@[simp] theorem memWrite16_f (a v : Word) : (memWrite16 s a v).f = s.f := by simp [State.f]
@[simp] theorem memWrite16_flagZ (a v : Word) : (memWrite16 s a v).flagZ = s.flagZ := by simp [State.flagZ]
@[simp] theorem memWrite16_flagN (a v : Word) : (memWrite16 s a v).flagN = s.flagN := by simp [State.flagN]
@[simp] theorem memWrite16_flagH (a v : Word) : (memWrite16 s a v).flagH = s.flagH := by simp [State.flagH]
@[simp] theorem memWrite16_flagC (a v : Word) : (memWrite16 s a v).flagC = s.flagC := by simp [State.flagC]

@[simp] theorem push16_reg8 (v : Word) (r : Reg8) : (push16 s v).reg8 r = s.reg8 r := reg8_congr (by simp) (by simp) (by simp) (by simp) r
@[simp] theorem push16_a (v : Word) : (push16 s v).a = s.a := by simp [State.a]
@[simp] theorem push16_f (v : Word) : (push16 s v).f = s.f := by simp [State.f]
@[simp] theorem push16_flagZ (v : Word) : (push16 s v).flagZ = s.flagZ := by simp [State.flagZ]
@[simp] theorem push16_flagN (v : Word) : (push16 s v).flagN = s.flagN := by simp [State.flagN]
@[simp] theorem push16_flagH (v : Word) : (push16 s v).flagH = s.flagH := by simp [State.flagH]
@[simp] theorem push16_flagC (v : Word) : (push16 s v).flagC = s.flagC := by simp [State.flagC]

@[simp] theorem setReg8_reg8 (r q : Reg8) (v : Byte) :
    (s.setReg8 r v).reg8 q = if q = r then v else s.reg8 q := by
  cases r <;> cases q <;> simp [State.reg8, State.setReg8]

@[simp] theorem setReg8_a (r : Reg8) (v : Byte) : (s.setReg8 r v).a = if .a = r then v else s.a := by
  simp [State.a]

@[simp] theorem setReg8_f (r : Reg8) (v : Byte) : (s.setReg8 r v).f = s.f := by
  cases r <;> simp [State.f, State.setReg8]

theorem flags_congr {s t : State} (h : t.f = s.f) :
    t.flagZ = s.flagZ ∧ t.flagN = s.flagN ∧ t.flagH = s.flagH ∧ t.flagC = s.flagC := by
  have (k : Nat) (hk : k < 8) : t.af.getLsbD k = s.af.getLsbD k := by
    rw [← getLsbD_loByte _ hk, ← getLsbD_loByte _ hk]; exact congrArg (BitVec.getLsbD · k) h
  exact ⟨this 7 (by omega), this 6 (by omega), this 5 (by omega), this 4 (by omega)⟩

@[simp] theorem setReg8_flagZ (r : Reg8) (v : Byte) : (s.setReg8 r v).flagZ = s.flagZ :=
  (flags_congr (setReg8_f s r v)).1
@[simp] theorem setReg8_flagN (r : Reg8) (v : Byte) : (s.setReg8 r v).flagN = s.flagN :=
  (flags_congr (setReg8_f s r v)).2.1
@[simp] theorem setReg8_flagH (r : Reg8) (v : Byte) : (s.setReg8 r v).flagH = s.flagH :=
  (flags_congr (setReg8_f s r v)).2.2.1
@[simp] theorem setReg8_flagC (r : Reg8) (v : Byte) : (s.setReg8 r v).flagC = s.flagC :=
  (flags_congr (setReg8_f s r v)).2.2.2

@[simp] theorem setPair_pair (p : Pair) (v : Word) : (s.setPair p v).pair p = v := by cases p <;> rfl
theorem setPair_pair_ne {p q : Pair} (h : q ≠ p) (v : Word) : (s.setPair p v).pair q = s.pair q := by
  cases p <;> cases q <;> first | rfl | exact absurd rfl h
@[simp] theorem setPair_a (p : Pair) (v : Word) : (s.setPair p v).a = s.a := by cases p <;> rfl
@[simp] theorem setPair_f (p : Pair) (v : Word) : (s.setPair p v).f = s.f := by cases p <;> rfl

theorem setStackPair_stackPair {p : StackPair} (h : p ≠ .af) (v : Word) : (s.setStackPair p v).stackPair p = v := by
  cases p <;> first | rfl | exact absurd rfl h
@[simp] theorem setStackPair_af_af (v : Word) : (s.setStackPair .af v).af = v &&& 0xFFF0#16 := rfl
theorem setStackPair_stackPair_ne {p q : StackPair} (h : q ≠ p) (v : Word) :
    (s.setStackPair p v).stackPair q = s.stackPair q := by
  cases p <;> cases q <;> first | rfl | exact absurd rfl h

theorem loByte_and_low (w : Word) : loByte (w &&& 0xFFF0#16) = loByte w &&& 0xF0#8 := by
  ext i hi
  have h : ∀ j < 8, (0xFFF0#16).getLsbD j = (0xF0#8).getLsbD j := by decide
  simp [loByte, h i hi, BitVec.getLsbD_eq_getElem hi]

theorem hiByte_and_low (w : Word) : hiByte (w &&& 0xFFF0#16) = hiByte w := by
  ext i hi
  have h : ∀ j < 8, (0xFFF0#16).getLsbD (8 + j) = true := by decide
  simp [hiByte, h i hi]

/-! ### The flags byte -/

@[simp] theorem flagsByte_getElem (z n h c : Bool) (low : Byte) :
    (flagsByte z n h c low)[7] = z ∧ (flagsByte z n h c low)[6] = n ∧
    (flagsByte z n h c low)[5] = h ∧ (flagsByte z n h c low)[4] = c := by
  revert z n h c low; decide

theorem flagsByte_toNat (z n h c : Bool) (low : Byte) : (flagsByte z n h c low).toNat =
    128 * z.toNat + 64 * n.toNat + 32 * h.toNat + 16 * c.toNat + low.toNat % 16 := by
  revert z n h c low; decide

@[simp] theorem setFlags_f (z n h c : Bool) : (s.setFlags z n h c).f = flagsByte z n h c s.f := by
  simp [State.f]

theorem setFlags_f_low (z n h c : Bool) : (s.setFlags z n h c).f.toNat % 16 = s.f.toNat % 16 := by
  rw [setFlags_f, flagsByte_toNat]; omega

@[simp] theorem setFlags_flagZ (z n h c : Bool) : (s.setFlags z n h c).flagZ = z := by
  rw [State.flagZ, ← getLsbD_loByte _ (by omega)]; simp
@[simp] theorem setFlags_flagN (z n h c : Bool) : (s.setFlags z n h c).flagN = n := by
  rw [State.flagN, ← getLsbD_loByte _ (by omega)]; simp
@[simp] theorem setFlags_flagH (z n h c : Bool) : (s.setFlags z n h c).flagH = h := by
  rw [State.flagH, ← getLsbD_loByte _ (by omega)]; simp
@[simp] theorem setFlags_flagC (z n h c : Bool) : (s.setFlags z n h c).flagC = c := by
  rw [State.flagC, ← getLsbD_loByte _ (by omega)]; simp

@[simp] theorem setFlags_reg8 (z n h c : Bool) (r : Reg8) : (s.setFlags z n h c).reg8 r = s.reg8 r := by
  cases r <;> simp [State.reg8]
@[simp] theorem setFlags_a (z n h c : Bool) : (s.setFlags z n h c).a = s.a := by simp [State.a]
@[simp] theorem setFlags_pair (z n h c : Bool) (p : Pair) : (s.setFlags z n h c).pair p = s.pair p := by
  cases p <;> rfl

/-- The flags are as given and F[3:0] is kept. -/
theorem setFlags_flagsAre (z n h c : Bool) : FlagsAre s (s.setFlags z n h c) z n h c :=
  ⟨by simp, by simp, by simp, by simp, setFlags_f_low s z n h c⟩

/-! ### Reads after an update that keeps the memory unit -/

/-- A read looks at the bank, the two memories and the image size only. -/
theorem memRead8_congr {s t : State} (hb : t.bankBase = s.bankBase) (hm : t.ram = s.ram) (hr : t.rom = s.rom)
    (hz : t.romSize = s.romSize) (x : Word) : memRead8 t x = memRead8 s x := by
  simp only [memRead8, State.romIndex, hb, hm, hr, hz]

@[simp] theorem memRead8_jump (v : Word) (x : Word) : memRead8 (s.jump v) x = memRead8 s x :=
  memRead8_congr (by simp) (by simp) (by simp) (by simp) x
@[simp] theorem memRead8_advance (n : Nat) (x : Word) : memRead8 (s.advance n) x = memRead8 s x :=
  memRead8_congr (by simp) (by simp) (by simp) (by simp) x
@[simp] theorem memRead8_popped  (x : Word) : memRead8 (s.popped) x = memRead8 s x :=
  memRead8_congr (by simp) (by simp) (by simp) (by simp) x
@[simp] theorem memRead8_addCycles (d : Nat) (x : Word) : memRead8 (s.addCycles d) x = memRead8 s x :=
  memRead8_congr (by simp) (by simp) (by simp) (by simp) x
@[simp] theorem memRead8_setReg8 (r : Reg8) (v : Byte) (x : Word) : memRead8 (s.setReg8 r v) x = memRead8 s x :=
  memRead8_congr (by simp) (by simp) (by simp) (by simp) x
@[simp] theorem memRead8_setPair (p : Pair) (v : Word) (x : Word) : memRead8 (s.setPair p v) x = memRead8 s x :=
  memRead8_congr (by simp) (by simp) (by simp) (by simp) x
@[simp] theorem memRead8_setStackPair (p : StackPair) (v : Word) (x : Word) : memRead8 (s.setStackPair p v) x = memRead8 s x :=
  memRead8_congr (by simp) (by simp) (by simp) (by simp) x
@[simp] theorem memRead8_setFlags (z n h c : Bool) (x : Word) : memRead8 (s.setFlags z n h c) x = memRead8 s x :=
  memRead8_congr (by simp) (by simp) (by simp) (by simp) x

end Sys2Proof.Machine
end

