-- ==== Sys2Proof/Laws/Memory.lean ====
section
/-! SUPPORT. The laws of memory: the canonical form and how every operation keeps it, a read after a write, the bytes
of an image, and what one and two byte writes do to the memory unit. -/

namespace Sys2Proof.Machine

/-! ### Lists of cells -/

theorem Memory.wf_cons {a : Nat} {v : Byte} {m : Memory} : Memory.wf ((a, v) :: m) = true ↔
    v ≠ Memory.unlisted ∧ (∀ c ∈ m, a < c.1) ∧ Memory.wf m = true := by
  simp [Memory.wf, and_assoc]

theorem Memory.within_cons {lo hi a : Nat} {v : Byte} {m : Memory} : Memory.within lo hi ((a, v) :: m) = true ↔
    (lo ≤ a ∧ a < hi) ∧ Memory.within lo hi m = true := by
  simp [Memory.within]

/-- An address below every cell reads as unlisted. -/
theorem Memory.read_below {m : Memory} {b : Nat} (h : ∀ c ∈ m, b < c.1) : Memory.read m b = Memory.unlisted := by
  cases m with
  | nil => rfl
  | cons c m =>
    have := h c (by simp)
    simp only [Memory.read, if_neg (show ¬ b = c.1 by omega), if_pos this]

/-- Every cell of a written memory is an old cell or the written one. -/
theorem Memory.mem_write {m : Memory} {a : Nat} {v : Byte} {c : Host.Cell} (h : c ∈ Memory.write m a v) :
    c ∈ m ∨ c = (a, v) := by
  induction m with
  | nil => simp only [Memory.write] at h; split at h <;> simp_all
  | cons d m ih =>
    obtain ⟨k, w⟩ := d
    simp only [Memory.write] at h
    split_ifs at h <;> simp only [List.mem_cons] at h ⊢ <;> tauto

/-- A read after a write. -/
theorem Memory.read_write {m : Memory} (hm : Memory.wf m = true) (a b : Nat) (v : Byte) :
    Memory.read (Memory.write m a v) b = if b = a then v else Memory.read m b := by
  induction m with
  | nil => simp only [Memory.write]; split_ifs <;> simp_all [Memory.read]
  | cons d m ih =>
    obtain ⟨k, w⟩ := d
    obtain ⟨-, hk, hm⟩ := Memory.wf_cons.1 hm
    have below {b : Nat} (h : b ≤ k) : Memory.read m b = Memory.unlisted :=
      Memory.read_below fun c hc => lt_of_le_of_lt h (hk c hc)
    simp only [Memory.write]
    split_ifs <;> (try simp only [Memory.read, ih hm]) <;> (try split_ifs) <;>
      (try subst_vars) <;> first | rfl | omega | exact below (by omega)

/-- A write keeps the canonical form. -/
theorem Memory.write_wf {m : Memory} (hm : Memory.wf m = true) (a : Nat) (v : Byte) :
    Memory.wf (Memory.write m a v) = true := by
  induction m with
  | nil => simp only [Memory.write]; split_ifs <;> simp_all [Memory.wf]
  | cons d m ih =>
    obtain ⟨k, w⟩ := d
    obtain ⟨hw, hk, hm'⟩ := Memory.wf_cons.1 hm
    simp only [Memory.write]
    split_ifs with h₁ h₂ h₃ h₃
    · exact hm'
    · subst h₁; exact Memory.wf_cons.2 ⟨by assumption, hk, hm'⟩
    · exact Memory.wf_cons.2 ⟨hw, hk, hm'⟩
    · refine Memory.wf_cons.2 ⟨by assumption, ?_, Memory.wf_cons.2 ⟨hw, hk, hm'⟩⟩
      rintro c (_ | ⟨_, hc⟩)
      · show a < k; omega
      · exact lt_trans (by omega) (hk c hc)
    · refine Memory.wf_cons.2 ⟨hw, fun c hc => ?_, ih hm'⟩
      rcases Memory.mem_write hc with h | rfl
      · exact hk c h
      · show k < a; omega

/-- A write inside the range keeps every cell inside it. -/
theorem Memory.write_within {m : Memory} {lo hi a : Nat} (hm : Memory.within lo hi m = true) (h₁ : lo ≤ a) (h₂ : a < hi)
    (v : Byte) : Memory.within lo hi (Memory.write m a v) = true := by
  simp only [Memory.within, List.all_eq_true, Bool.and_eq_true, decide_eq_true_eq] at hm ⊢
  intro c hc
  rcases Memory.mem_write hc with h | rfl
  · exact hm c h
  · exact ⟨h₁, h₂⟩

/-! ### The memory that holds a list of bytes -/

theorem Memory.mem_ofBytes {bs : List Byte} {base : Nat} {c : Host.Cell} (h : c ∈ Memory.ofBytes base bs) :
    base ≤ c.1 ∧ c.1 < base + bs.length := by
  induction bs generalizing base with
  | nil => simp [Memory.ofBytes] at h
  | cons v bs ih =>
    simp only [Memory.ofBytes] at h
    rw [List.length_cons]
    split_ifs at h
    · have := ih h; omega
    · rcases List.mem_cons.1 h with rfl | h
      · simp
      · have := ih h; omega

theorem Memory.ofBytes_wf (base : Nat) (bs : List Byte) : Memory.wf (Memory.ofBytes base bs) = true := by
  induction bs generalizing base with
  | nil => rfl
  | cons v bs ih =>
    simp only [Memory.ofBytes]
    split_ifs with h
    · exact ih _
    · exact Memory.wf_cons.2 ⟨h, fun c hc => Nat.lt_of_succ_le (Memory.mem_ofBytes hc).1, ih _⟩

theorem Memory.ofBytes_within {base hi : Nat} {bs : List Byte} (h : base + bs.length ≤ hi) :
    Memory.within base hi (Memory.ofBytes base bs) = true := by
  simp only [Memory.within, List.all_eq_true, Bool.and_eq_true, decide_eq_true_eq]
  intro c hc
  have := Memory.mem_ofBytes hc
  omega

theorem Memory.read_ofBytes (base : Nat) (bs : List Byte) (k : Nat) :
    Memory.read (Memory.ofBytes base bs) (base + k) = bs.getD k Memory.unlisted := by
  induction bs generalizing base k with
  | nil => rfl
  | cons v bs ih =>
    have hb : Memory.read (Memory.ofBytes (base + 1) bs) base = Memory.unlisted :=
      Memory.read_below fun c hc => Nat.lt_of_succ_le (Memory.mem_ofBytes hc).1
    cases k with
    | zero => simp only [Memory.ofBytes, Nat.add_zero]; split_ifs with h <;> simp [Memory.read, hb, h]
    | succ k =>
      have := ih (base + 1) k
      rw [show base + 1 + k = base + (k + 1) by omega] at this
      simp only [Memory.ofBytes]
      split_ifs with h
      · simpa using this
      · simp [Memory.read, this]

/-! ### The memory unit -/

theorem memRead8_ram (s : State) {a : Word} (h : 0x8000 ≤ a.toNat) : memRead8 s a = .ok (s.ram.read a.toNat) := by
  simp only [memRead8, State.romIndex, if_neg (show ¬ a.toNat < 0x4000 by omega),
    if_neg (show ¬ a.toNat < 0x8000 by omega)]

theorem memRead8_fixed (s : State) {a : Word} (h : a.toNat < 0x4000) : memRead8 s a =
    if a.toNat < s.romSize then .ok (s.rom.read a.toNat) else .error (.bankOutOfRange a a.toNat) := by
  simp only [memRead8, State.romIndex, if_pos h]

theorem memRead8_window (s : State) {a : Word} (h₁ : 0x4000 ≤ a.toNat) (h₂ : a.toNat < 0x8000) : memRead8 s a =
    if s.bankBase + (a.toNat - 0x4000) < s.romSize then .ok (s.rom.read (s.bankBase + (a.toNat - 0x4000)))
    else .error (.bankOutOfRange a (s.bankBase + (a.toNat - 0x4000))) := by
  simp only [memRead8, State.romIndex, if_neg (show ¬ a.toNat < 0x4000 by omega), if_pos h₂]

/-- A failed read names the index it resolved to, which lies beyond the image (R282). -/
theorem memRead8_error {s : State} {a : Word} {f : Fault} (h : memRead8 s a = .error f) :
    ∃ i, f = .bankOutOfRange a i ∧ s.romIndex a = some i ∧ s.romSize ≤ i := by
  simp only [memRead8] at h
  split at h
  · next i hi =>
    split_ifs at h with hlt
    exact ⟨i, by simpa using h.symm, hi, by omega⟩
  · simp at h

/-- A failed word read is the failed read of one of its two bytes, the lower address first (R58). -/
theorem memRead16_error {s : State} {a : Word} {f : Fault} (h : memRead16 s a = .error f) :
    memRead8 s a = .error f ∨ memRead8 s (a + 1) = .error f := by
  simp only [memRead16] at h
  split at h
  · next e he => exact .inl (by rw [he]; simpa using h)
  · split at h
    · next e he => exact .inr (by rw [he]; simpa using h)
    · simp at h

theorem memRead16_ok {s : State} {a : Word} {lo hi : Byte} (h₁ : memRead8 s a = .ok lo)
    (h₂ : memRead8 s (a + 1) = .ok hi) : memRead16 s a = .ok (wordOf hi lo) := by
  simp only [memRead16, h₁, h₂]

/-- `selectBank` changes `bank_base` only (R60). -/
theorem selectBank_eq (s : State) (v : Byte) : selectBank s v =
    { s with bankBase := if v.toNat % 32 = 0 then s.bankBase else 0x4000 * (v.toNat % 32) } := by
  unfold selectBank; split_ifs <;> rfl

/-- `bank_base` after a byte write (R31, R57). -/
theorem memWrite8_bankBase (s : State) (a : Word) (v : Byte) :
    (memWrite8 s a v).bankBase = bankAfter s.bankBase a v := by
  unfold memWrite8 bankAfter selectBank
  split_ifs <;> first | rfl | omega

/-- RAM after a byte write (R57). -/
theorem memWrite8_ram (s : State) (a : Word) (v : Byte) :
    (memWrite8 s a v).ram = if a.toNat < 0x8000 then s.ram else s.ram.write a.toNat v := by
  unfold memWrite8 selectBank
  split_ifs <;> rfl

theorem bankAfter_legal {bank : Nat} (h : bank % 0x4000 = 0 ∧ 0x4000 ≤ bank ∧ bank ≤ 0x7C000) (a : Word) (v : Byte) :
    bankAfter bank a v % 0x4000 = 0 ∧ 0x4000 ≤ bankAfter bank a v ∧ bankAfter bank a v ≤ 0x7C000 := by
  unfold bankAfter; split_ifs <;> omega

theorem memWrite8_bankLegal {s : State} (h : s.BankLegal) (a : Word) (v : Byte) : (memWrite8 s a v).BankLegal := by
  unfold State.BankLegal; rw [memWrite8_bankBase]; exact bankAfter_legal h a v

theorem memWrite16_bankLegal {s : State} (h : s.BankLegal) (a v : Word) : (memWrite16 s a v).BankLegal :=
  memWrite8_bankLegal (memWrite8_bankLegal h _ _) _ _

theorem memWrite8_ramWf {s : State} (h : s.RamWf) (a : Word) (v : Byte) : (memWrite8 s a v).RamWf := by
  unfold State.RamWf; rw [memWrite8_ram]
  split_ifs with ha
  · exact h
  · exact ⟨Memory.write_wf h.1 _ _, Memory.write_within h.2 (by omega) a.isLt v⟩

theorem memWrite16_ramWf {s : State} (h : s.RamWf) (a v : Word) : (memWrite16 s a v).RamWf :=
  memWrite8_ramWf (memWrite8_ramWf h _ _) _ _

/-- Everything a byte write does to the memory unit. -/
theorem memWrite8_storedByte {s : State} (h : s.RamWf) (a : Word) (v : Byte) :
    StoredByte s (memWrite8 s a v) a v := by
  refine ⟨by simp, by simp, by simp, memWrite8_bankBase s a v, fun ha => ?_, fun x hx hb => ?_⟩
  · rw [memRead8_ram _ ha, memWrite8_ram, if_neg (by omega), Memory.read_write h.1, if_pos rfl]
  · rcases Nat.lt_or_ge x.toNat 0x8000 with hlt | hge
    · rcases Nat.lt_or_ge x.toNat 0x4000 with h4 | h4
      · simp [memRead8_fixed _ h4]
      · simp [memRead8_window _ h4 hlt, (by omega : (memWrite8 s a v).bankBase = s.bankBase)]
    · have hne : x ≠ a := hx.resolve_right (by omega)
      have hne : x.toNat ≠ a.toNat := fun e => hne (BitVec.eq_of_toNat_eq e)
      rw [memRead8_ram _ hge, memRead8_ram _ hge, memWrite8_ram]
      split_ifs
      · rfl
      · rw [Memory.read_write h.1, if_neg hne]

theorem word_ne_add_one (a : Word) : a ≠ a + 1 := by
  intro h
  have := congrArg BitVec.toNat h
  rw [BitVec.toNat_add] at this
  have := a.isLt
  simp at *

/-- Everything a word write does to the memory unit. -/
theorem memWrite16_storedWord {s : State} (h : s.RamWf) (a v : Word) : StoredWord s (memWrite16 s a v) a v := by
  obtain ⟨-, -, -, b₁, r₁, k₁⟩ := memWrite8_storedByte h a (loByte v)
  obtain ⟨-, -, -, b₂, r₂, k₂⟩ := memWrite8_storedByte (memWrite8_ramWf h a (loByte v)) (a + 1) (hiByte v)
  refine ⟨by simp, by simp, by simp, ?_, fun ha => ?_, r₂, fun x hx hb => ?_⟩
  · rw [memWrite16, b₂, b₁]
  · rw [memWrite16, k₂ a (.inl (word_ne_add_one a)) (by omega), r₁ ha]
  · rcases Nat.lt_or_ge x.toNat 0x8000 with hlt | hge
    · rcases Nat.lt_or_ge x.toNat 0x4000 with h4 | h4
      · simp [memRead8_fixed _ h4]
      · simp [memRead8_window _ h4 hlt, (by omega : (memWrite16 s a v).bankBase = s.bankBase)]
    · obtain ⟨h₁, h₂⟩ := hx.resolve_right (by omega)
      rw [memWrite16, k₂ x (.inl h₂) (by omega), k₁ x (.inl h₁) (by omega)]

/-! ### The canonical form at reset and under the host's operations -/

theorem reset_ramWf : State.reset.RamWf := by decide

theorem reset_romWf : State.reset.RomWf := by decide

theorem loadRom_romWf (s : State) (image : List Byte) : (loadRom s image).RomWf :=
  ⟨Memory.ofBytes_wf 0 image, Memory.ofBytes_within (by simp [loadRom])⟩

theorem resetCore_ramWf (s : State) (init : InitRegs) (ramBytes : List Byte) : (resetCore s init ramBytes).RamWf :=
  ⟨Memory.ofBytes_wf _ _, Memory.ofBytes_within (by simp; omega)⟩

theorem Memory.within_mono {lo hi hi' : Nat} {m : Memory} (hm : Memory.within lo hi m = true) (h : hi ≤ hi') :
    Memory.within lo hi' m = true := by
  simp only [Memory.within, List.all_eq_true, Bool.and_eq_true, decide_eq_true_eq] at hm ⊢
  intro c hc
  have := hm c hc
  omega

/-- Placing a program byte keeps both memories canonical. -/
theorem placeByte_wf {s : State} (hr : s.RamWf) (hm : s.RomWf) (a : Word) (v : Byte) :
    (placeByte s a v).RamWf ∧ (placeByte s a v).RomWf := by
  unfold placeByte
  split
  · exact ⟨hr, Memory.write_wf hm.1 _ _,
      Memory.write_within (Memory.within_mono hm.2 (by simp)) (by omega) (by simp only; omega) v⟩
  · next h =>
    have ha : 0x8000 ≤ a.toNat := by
      unfold State.romIndex at h
      split_ifs at h
      omega
    exact ⟨⟨Memory.write_wf hr.1 _ _, Memory.write_within hr.2 ha a.isLt v⟩, hm⟩

end Sys2Proof.Machine
end

