-- ==== Sys2Proof/Laws/Forms.lean ====
section
/-! SUPPORT. The meanings by form: `exec` of an instruction is the shared operation that its `form` names, so that a
proof about a shape of instruction treats all its rows at once. -/

namespace Sys2Proof.Machine

/-- The shared operation of each form, on its operands. -/
def runForm : Form → State → Result
  | .nop, s => noOperation s
  | .ldMemSp a, s => loadMemSp a s
  | .stop _, s => stopCore s
  | .jr e, s => jumpRel e s
  | .jrCond cc e, s => jumpRelCond cc e s
  | .ldPairImm p n, s => loadPairImm p n s
  | .addHl p, s => addHlPair p s
  | .ldIndA i, s => loadIndA i s
  | .ldAInd i, s => loadAInd i s
  | .incPair p, s => incPair p s
  | .decPair p, s => decPair p s
  | .inc8 o, s => incOpnd o s
  | .dec8 o, s => decOpnd o s
  | .ld8Imm o n, s => loadImm o n s
  | .rlca, s => rotAcc .rlc s
  | .rrca, s => rotAcc .rrc s
  | .rla, s => rotAcc .rl s
  | .rra, s => rotAcc .rr s
  | .daa, s => decimalAdjust s
  | .cpl, s => complementA s
  | .scf, s => setCarry s
  | .ccf, s => complementCarry s
  | .halt, s => haltCore s
  | .ldRegReg dst src, s => loadRegReg dst src s
  | .ldRegMem dst, s => loadRegMem dst s
  | .ldMemReg src, s => loadMemReg src s
  | .alu op o, s => aluOpnd op o s
  | .aluImm op n, s => aluImm op n s
  | .retCond cc, s => returnCond cc s
  | .ret, s => returnOp s
  | .reti, s => returnEnable s
  | .ldhMemA n, s => loadAddrA (highPage n) 2 s
  | .ldhAMem n, s => loadAAddr (highPage n) 2 s
  | .ldHighCA, s => loadAddrA (highPage (s.reg8 .c)) 1 s
  | .ldAHighC, s => loadAAddr (highPage (s.reg8 .c)) 1 s
  | .addSp e, s => addSpDisp e s
  | .ldHlSp e, s => loadHlSp e s
  | .pop p, s => popPair p s
  | .push p, s => pushPair p s
  | .jpHl, s => jumpTo s.hl s
  | .ldSpHl, s => loadSpHl s
  | .jpCond cc a, s => jumpCond cc a s
  | .jp a, s => jumpTo a s
  | .ldMemA a, s => loadAddrA a 3 s
  | .ldAMem a, s => loadAAddr a 3 s
  | .di, s => setIme false s
  | .ei, s => setIme true s
  | .callCond cc a, s => callCond cc a s
  | .call a, s => callAddr a s
  | .rst t, s => restart t s
  | .illegal op, s => illegalOp op s
  | .escapeCb o, s => runEscape o s
  | .rot op o, s => rotOpnd op o s
  | .bit n o, s => bitOpnd n o s
  | .res n o, s => resOpnd n o s
  | .set n o, s => setOpnd n o s

/-- Every arm of `exec` is its form's operation. -/
theorem exec_eq_run (i : Instr) (s : State) : exec i s = runForm i.form s := by
  cases i <;> rfl

theorem exec_of_form {i : Instr} {f : Form} (h : i.form = f) (s : State) : exec i s = runForm f s := by
  rw [exec_eq_run, h]

theorem encode_of_form {i : Instr} {f : Form} (h : i.form = f) : encode i = f.encode := by rw [encode, h]

end Sys2Proof.Machine
end

