-- ==== Sys2Proof/Laws/Operations.lean ====
section
/-! SUPPORT. One lemma per shared operation: when it answers a next state, and everything that holds of that state. -/

namespace Sys2Proof.Machine

variable {s t u : State}

/-! ### Building frames -/

theorem memKept_of (hb : t.bankBase = s.bankBase) (hm : t.ram = s.ram) (hr : t.rom = s.rom)
    (hz : t.romSize = s.romSize) (hp : t.params = s.params) : MemKept s t :=
  ⟨hb, hr, hz, hp, memRead8_congr hb hm hr hz⟩

/-- What was stored is still there in a state with the same memory unit. -/
theorem StoredByte.congr {a : Word} {v : Byte} (h : StoredByte s t a v) (hb : u.bankBase = t.bankBase)
    (hm : u.ram = t.ram) (hr : u.rom = t.rom) (hz : u.romSize = t.romSize)
    (hp : u.params = t.params) : StoredByte s u a v := by
  have e := memRead8_congr hb hm hr hz
  unfold StoredByte at h ⊢
  simpa only [e, hb, hr, hz, hp] using h

/-- What was stored is still there in a state with the same memory unit. -/
theorem StoredWord.congr {a v : Word} (h : StoredWord s t a v) (hb : u.bankBase = t.bankBase)
    (hm : u.ram = t.ram) (hr : u.rom = t.rom) (hz : u.romSize = t.romSize)
    (hp : u.params = t.params) : StoredWord s u a v := by
  have e := memRead8_congr hb hm hr hz
  unfold StoredWord at h ⊢
  simpa only [e, hb, hr, hz, hp] using h

/-- The store is seen from any state with the same memory unit as the one before it. -/
theorem StoredWord.congr_left {r : State} {a v : Word} (h : StoredWord s t a v) (hb : r.bankBase = s.bankBase)
    (hm : r.ram = s.ram) (hr : r.rom = s.rom) (hz : r.romSize = s.romSize)
    (hp : r.params = s.params) : StoredWord r t a v := by
  have e := memRead8_congr hb hm hr hz
  unfold StoredWord at h ⊢
  simpa only [e, hb, hr, hz, hp] using h

/-- The frame of an operation that writes an operand, then flags, then advances. -/
theorem writeOpnd_spec (hs : s.RamWf) (o : Opnd8) (v : Byte) (z n h c : Bool) (len : Nat) :
    WroteOpnd s (((writeOpnd s o v).setFlags z n h c).advance len) o v len ∧
      FlagsAre s (((writeOpnd s o v).setFlags z n h c).advance len) z n h c ∧
      WroteOpnd s ((writeOpnd s o v).advance len) o v len ∧ FlagsKept s ((writeOpnd s o v).advance len) := by
  have flags := setFlags_flagsAre (writeOpnd s o v) z n h c
  have hf : (writeOpnd s o v).f = s.f := by cases o <;> simp [writeOpnd]
  refine ⟨?_, ?_, ?_, ?_⟩
  · cases o with
    | reg r =>
      refine ⟨by simp [writeOpnd], fun q hq => ?_, by simp [writeOpnd], by simp [writeOpnd], ?_, memKept_of ?_ ?_ ?_ ?_ ?_⟩
      · have : q ≠ r := by simpa using hq
        simp [writeOpnd, this]
      · simp [CtlKept, writeOpnd]
      all_goals simp [writeOpnd]
    | memHl =>
      refine ⟨(memWrite8_storedByte hs s.hl v).congr ?_ ?_ ?_ ?_ ?_, ?_⟩
      iterate 5 simp [writeOpnd]
      simp [OnlyRegsAndMem, RegsKept, CtlKept, writeOpnd]
  · unfold FlagsAre at flags ⊢
    rw [hf] at flags
    simpa using flags
  · cases o with
    | reg r =>
      refine ⟨by simp [writeOpnd], fun q hq => ?_, by simp [writeOpnd], by simp [writeOpnd], ?_, memKept_of ?_ ?_ ?_ ?_ ?_⟩
      · have : q ≠ r := by simpa using hq
        simp [writeOpnd, this]
      · simp [CtlKept, writeOpnd]
      all_goals simp [writeOpnd]
    | memHl =>
      refine ⟨(memWrite8_storedByte hs s.hl v).congr ?_ ?_ ?_ ?_ ?_, ?_⟩
      iterate 5 simp [writeOpnd]
      simp [OnlyRegsAndMem, RegsKept, CtlKept, writeOpnd]
  · simpa [FlagsKept] using hf

/-- The frame of an operation on A, then flags, then advance. -/
theorem accResult_spec (r : Flagged) (len : Nat) :
    ((accResult s r).advance len).a = r.res ∧ FlagsAre s ((accResult s r).advance len) r.z r.n r.h r.c ∧
      OnlyRegs s ((accResult s r).advance len) [.a] len := by
  have flags := setFlags_flagsAre (s.setReg8 .a r.res) r.z r.n r.h r.c
  refine ⟨by simp [accResult, State.putFlags], ?_, fun q hq => ?_, ?_, ?_, ?_, memKept_of ?_ ?_ ?_ ?_ ?_⟩
  · unfold FlagsAre at flags ⊢
    simpa [accResult, State.putFlags] using flags
  · have : q ≠ .a := by simpa using hq
    simp [accResult, State.putFlags, this]
  all_goals simp [accResult, State.putFlags, CtlKept]

/-- The frame of a change to flags only. -/
theorem setFlags_advance_spec (z n h c : Bool) (len : Nat) :
    FlagsAre s ((s.setFlags z n h c).advance len) z n h c ∧ OnlyRegs s ((s.setFlags z n h c).advance len) [] len := by
  have flags := setFlags_flagsAre s z n h c
  refine ⟨?_, fun q _ => by simp, by simp, by simp, by simp [CtlKept], memKept_of ?_ ?_ ?_ ?_ ?_⟩
  · unfold FlagsAre at flags ⊢; simpa using flags
  all_goals simp

/-! ### 8-bit loads -/

theorem loadRegReg_spec (dst src : Reg8) : ∃ t, loadRegReg dst src s = .next t ∧
    t.reg8 dst = s.reg8 src ∧ OnlyRegs s t [dst] 1 ∧ FlagsKept s t := by
  refine ⟨_, rfl, by simp, ⟨fun q hq => ?_, by simp, by simp, by simp [CtlKept], memKept_of ?_ ?_ ?_ ?_ ?_⟩,
    by simp [FlagsKept]⟩
  · have : q ≠ dst := by simpa using hq
    simp [this]
  all_goals simp

/-- A register takes a byte that was read. -/
theorem setReg8_advance_spec (r : Reg8) (v : Byte) (len : Nat) :
    ((s.setReg8 r v).advance len).reg8 r = v ∧ OnlyRegs s ((s.setReg8 r v).advance len) [r] len ∧
      FlagsKept s ((s.setReg8 r v).advance len) := by
  refine ⟨by simp, ⟨fun q hq => ?_, by simp, by simp, by simp [CtlKept], memKept_of ?_ ?_ ?_ ?_ ?_⟩, by simp [FlagsKept]⟩
  · have : q ≠ r := by simpa using hq
    simp [this]
  all_goals simp

theorem loadRegMem_spec {dst : Reg8} {v : Byte} (h : memRead8 s s.hl = .ok v) : ∃ t, loadRegMem dst s = .next t ∧
    t.reg8 dst = v ∧ OnlyRegs s t [dst] 1 ∧ FlagsKept s t :=
  ⟨_, by simp only [loadRegMem, h, withRead], setReg8_advance_spec dst v 1⟩

/-- A byte was stored and the instruction advanced. -/
theorem memWrite8_advance_spec (hs : s.RamWf) (a : Word) (v : Byte) (len : Nat) :
    StoredByte s ((memWrite8 s a v).advance len) a v ∧ OnlyRegsAndMem s ((memWrite8 s a v).advance len) [] len ∧
      FlagsKept s ((memWrite8 s a v).advance len) := by
  refine ⟨(memWrite8_storedByte hs a v).congr ?_ ?_ ?_ ?_ ?_, ?_, ?_⟩ <;>
    simp [OnlyRegsAndMem, RegsKept, CtlKept, FlagsKept]

theorem loadMemReg_spec (hs : s.RamWf) (src : Reg8) : ∃ t, loadMemReg src s = .next t ∧
    StoredByte s t s.hl (s.reg8 src) ∧ OnlyRegsAndMem s t [] 1 ∧ FlagsKept s t :=
  ⟨_, rfl, memWrite8_advance_spec hs _ _ 1⟩

theorem loadImm_spec (hs : s.RamWf) (o : Opnd8) (n : Byte) : ∃ t, loadImm o n s = .next t ∧
    WroteOpnd s t o n 2 ∧ FlagsKept s t :=
  ⟨_, rfl, (writeOpnd_spec hs o n false false false false 2).2.2⟩

theorem loadAAddr_spec {a : Word} {v : Byte} (h : memRead8 s a = .ok v) (len : Nat) :
    ∃ t, loadAAddr a len s = .next t ∧ t.a = v ∧ OnlyRegs s t [.a] len ∧ FlagsKept s t :=
  ⟨_, by simp only [loadAAddr, h, withRead], setReg8_advance_spec .a v len⟩

theorem loadAddrA_spec (hs : s.RamWf) (a : Word) (len : Nat) : ∃ t, loadAddrA a len s = .next t ∧
    StoredByte s t a s.a ∧ OnlyRegsAndMem s t [] len ∧ FlagsKept s t :=
  ⟨_, rfl, memWrite8_advance_spec hs _ _ len⟩

/-- HL after an access by an indirect operand (R126 to R129). -/
def hlAfter (s : State) : Indirect → Word
  | .bc | .de => s.hl
  | .hlInc => s.hl + 1
  | .hlDec => s.hl - 1

/-- The registers that an indirect operand moves. -/
def movedRegs : Indirect → List Reg8
  | .bc | .de => []
  | .hlInc | .hlDec => [.h, .l]

/-- An indirect operand moves HL and nothing else. -/
theorem afterIndirect_spec (i : Indirect) : (afterIndirect s i).hl = hlAfter s i ∧
    RegsKept s (afterIndirect s i) (movedRegs i) ∧ (afterIndirect s i).f = s.f ∧ (afterIndirect s i).sp = s.sp ∧
    (afterIndirect s i).pc = s.pc ∧ CtlKept s (afterIndirect s i) ∧ (afterIndirect s i).bankBase = s.bankBase ∧
    (afterIndirect s i).ram = s.ram ∧ (afterIndirect s i).rom = s.rom ∧ (afterIndirect s i).romSize = s.romSize ∧
    (afterIndirect s i).params = s.params := by
  refine ⟨by cases i <;> rfl, fun q hq => ?_, ?_⟩
  · cases i <;> first | rfl | (cases q <;> first | rfl | exact absurd hq (by decide))
  · cases i <;> exact ⟨rfl, rfl, rfl, ⟨rfl, rfl, rfl⟩, rfl, rfl, rfl, rfl, rfl⟩

theorem loadAInd_spec {i : Indirect} {v : Byte} (h : memRead8 s (indirectAddr s i) = .ok v) :
    ∃ t, loadAInd i s = .next t ∧ t.a = v ∧ t.hl = hlAfter s i ∧
      OnlyRegs s t (.a :: movedRegs i) 1 ∧ FlagsKept s t := by
  obtain ⟨e₁, e₂, e₃, e₄, e₅, ⟨e₆, e₇, e₈⟩, e₉, e₁₀, e₁₁, e₁₂, e₁₃⟩ := afterIndirect_spec (s := s.setReg8 .a v) i
  refine ⟨_, by simp only [loadAInd, h, withRead]; rfl, ?_, ?_, ⟨fun q hq => ?_, ?_, ?_, ⟨?_, ?_, ?_⟩,
    memKept_of ?_ ?_ ?_ ?_ ?_⟩, ?_⟩
  · have := e₂ .a (by cases i <;> decide)
    simpa [State.a] using this
  · rw [advance_hl, e₁]; cases i <;> rfl
  · have hq' : q ≠ .a ∧ q ∉ movedRegs i := by simpa using hq
    have := e₂ q hq'.2
    simpa [hq'.1] using this
  · simpa using e₄
  · simpa using e₅
  all_goals simp_all [FlagsKept]

theorem loadIndA_spec (hs : s.RamWf) (i : Indirect) : ∃ t, loadIndA i s = .next t ∧
    StoredByte s t (indirectAddr s i) s.a ∧ t.hl = hlAfter s i ∧ OnlyRegsAndMem s t (movedRegs i) 1 ∧
      FlagsKept s t := by
  obtain ⟨e₁, e₂, e₃, e₄, e₅, ⟨e₆, e₇, e₈⟩, e₉, e₁₀, e₁₁, e₁₂, e₁₃⟩ :=
    afterIndirect_spec (s := memWrite8 s (indirectAddr s i) s.a) i
  refine ⟨_, rfl, (memWrite8_storedByte hs _ _).congr ?_ ?_ ?_ ?_ ?_, ?_, ⟨fun q hq => ?_, ?_, ?_, ?_, ?_, ?_⟩, ?_⟩
  · simpa using e₉
  · simpa using e₁₀
  · simpa using e₁₁
  · simpa using e₁₂
  · simpa using e₁₃
  · rw [advance_hl, e₁]; cases i <;> simp [hlAfter]
  · simpa using e₂ q hq
  all_goals simp_all [FlagsKept]

/-! ### 16-bit loads and the stack -/

/-- The frame of a write to a pair (R21, R22). -/
theorem setPair_kept (p : Pair) (v : Word) : (s.setPair p v).pair p = v ∧
    (∀ q, q ≠ p → (s.setPair p v).pair q = s.pair q) ∧ (s.setPair p v).af = s.af :=
  ⟨by simp, fun _ h => setPair_pair_ne s h v, by simp⟩

/-- `push16` moves SP down by two and stores the word there (R145). -/
theorem push16_storedWord (hs : s.RamWf) (v : Word) : StoredWord s (push16 s v) (s.sp - 2) v :=
  (memWrite16_storedWord (s := { s with sp := s.sp - 2 }) hs (s.sp - 2) v).congr_left rfl rfl rfl rfl rfl

theorem push16_ramWf (hs : s.RamWf) (v : Word) : (push16 s v).RamWf :=
  memWrite16_ramWf (s := { s with sp := s.sp - 2 }) hs _ _

theorem pushPair_spec (hs : s.RamWf) (p : StackPair) : ∃ t, pushPair p s = .next t ∧ t.sp = s.sp - 2 ∧
    StoredWord s t (s.sp - 2) (pushValue s p) ∧ RegsAndCtlKept s t ∧ t.pc = s.pc + 1 := by
  refine ⟨_, rfl, by simp, (push16_storedWord hs _).congr ?_ ?_ ?_ ?_ ?_, ?_, ?_⟩ <;>
    simp [RegsAndCtlKept, RegsKept, FlagsKept, CtlKept]

theorem popPair_spec {p : StackPair} {lo hi : Byte} (h₁ : memRead8 s s.sp = .ok lo)
    (h₂ : memRead8 s (s.sp + 1) = .ok hi) : ∃ t, popPair p s = .next t ∧
      t.stackPair p = (s.setStackPair p (wordOf hi lo)).stackPair p ∧
      (∀ q, q ≠ p → t.stackPair q = s.stackPair q) ∧ t.sp = s.sp + 2 ∧ t.pc = s.pc + 1 ∧ CtlKept s t ∧
      MemKept s t := by
  refine ⟨_, by simp only [popPair, popWord, memRead16_ok h₁ h₂, withRead]; rfl, ?_, fun q hq => ?_, by simp, by simp,
    by simp [CtlKept], memKept_of ?_ ?_ ?_ ?_ ?_⟩
  · cases p <;> rfl
  · cases p <;> cases q <;> first | rfl | exact absurd rfl hq
  all_goals simp

theorem loadMemSp_spec (hs : s.RamWf) (a : Word) : ∃ t, loadMemSp a s = .next t ∧
    StoredWord s t a s.sp ∧ OnlyRegsAndMem s t [] 3 ∧ FlagsKept s t := by
  refine ⟨_, rfl, (memWrite16_storedWord hs a s.sp).congr ?_ ?_ ?_ ?_ ?_, ?_, ?_⟩ <;>
    simp [OnlyRegsAndMem, RegsKept, CtlKept, FlagsKept]

/-! ### Arithmetic, rotates and bits -/

theorem aluOpnd_spec {op : AluOp} {o : Opnd8} {v : Byte} (h : readOpnd s o = .ok v) : ∃ t,
    aluOpnd op o s = .next t ∧ t.a = (aluFlags op s.a v s.flagC).res ∧
      FlagsAre s t (aluFlags op s.a v s.flagC).z (aluFlags op s.a v s.flagC).n (aluFlags op s.a v s.flagC).h
        (aluFlags op s.a v s.flagC).c ∧ OnlyRegs s t [.a] 1 :=
  ⟨_, by simp only [aluOpnd, h, withRead], accResult_spec _ 1⟩

theorem aluImm_spec (op : AluOp) (n : Byte) : ∃ t,
    aluImm op n s = .next t ∧ t.a = (aluFlags op s.a n s.flagC).res ∧
      FlagsAre s t (aluFlags op s.a n s.flagC).z (aluFlags op s.a n s.flagC).n (aluFlags op s.a n s.flagC).h
        (aluFlags op s.a n s.flagC).c ∧ OnlyRegs s t [.a] 2 :=
  ⟨_, rfl, accResult_spec _ 2⟩

theorem incOpnd_spec (hs : s.RamWf) {o : Opnd8} {v : Byte} (h : readOpnd s o = .ok v) : ∃ t,
    incOpnd o s = .next t ∧ WroteOpnd s t o (v + 1) 1 ∧
      FlagsAre s t (decide (v + 1 = 0)) false (decide (v.toNat % 16 = 0xF)) s.flagC :=
  ⟨_, by simp only [incOpnd, h, withRead]; rfl, (writeOpnd_spec hs o _ _ _ _ _ 1).1, (writeOpnd_spec hs o _ _ _ _ _ 1).2.1⟩

theorem decOpnd_spec (hs : s.RamWf) {o : Opnd8} {v : Byte} (h : readOpnd s o = .ok v) : ∃ t,
    decOpnd o s = .next t ∧ WroteOpnd s t o (v - 1) 1 ∧
      FlagsAre s t (decide (v - 1 = 0)) true (decide (v.toNat % 16 = 0)) s.flagC :=
  ⟨_, by simp only [decOpnd, h, withRead]; rfl, (writeOpnd_spec hs o _ _ _ _ _ 1).1, (writeOpnd_spec hs o _ _ _ _ _ 1).2.1⟩

theorem rotOpnd_spec (hs : s.RamWf) {op : RotOp} {o : Opnd8} {v : Byte} (h : readOpnd s o = .ok v) : ∃ t,
    rotOpnd op o s = .next t ∧ WroteOpnd s t o (rotResult op v s.flagC).1 2 ∧
      FlagsAre s t (decide ((rotResult op v s.flagC).1 = 0)) false false (rotResult op v s.flagC).2 :=
  ⟨_, by simp only [rotOpnd, h, withRead]; rfl, (writeOpnd_spec hs o _ _ _ _ _ 2).1, (writeOpnd_spec hs o _ _ _ _ _ 2).2.1⟩

theorem bitOpnd_spec {n : Fin 8} {o : Opnd8} {v : Byte} (h : readOpnd s o = .ok v) : ∃ t,
    bitOpnd n o s = .next t ∧ FlagsAre s t (!v.getLsbD n.val) false true s.flagC ∧ OnlyRegs s t [] 2 :=
  ⟨_, by simp only [bitOpnd, h, withRead], setFlags_advance_spec _ _ _ _ 2⟩

theorem resOpnd_spec (hs : s.RamWf) {n : Fin 8} {o : Opnd8} {v : Byte} (h : readOpnd s o = .ok v) : ∃ t,
    resOpnd n o s = .next t ∧ WroteOpnd s t o (clearBit n v) 2 ∧ FlagsKept s t :=
  ⟨_, by simp only [resOpnd, h, withRead], (writeOpnd_spec hs o _ false false false false 2).2.2⟩

theorem setOpnd_spec (hs : s.RamWf) {n : Fin 8} {o : Opnd8} {v : Byte} (h : readOpnd s o = .ok v) : ∃ t,
    setOpnd n o s = .next t ∧ WroteOpnd s t o (raiseBit n v) 2 ∧ FlagsKept s t :=
  ⟨_, by simp only [setOpnd, h, withRead], (writeOpnd_spec hs o _ false false false false 2).2.2⟩

/-- RES clears bit `n` and keeps the others (R214). -/
theorem clearBit_getLsbD (n : Fin 8) (v : Byte) (k : Nat) :
    (clearBit n v).getLsbD k = (v.getLsbD k && k != n.val) := by
  rcases Nat.lt_or_ge k 8 with h | h
  · obtain ⟨k, rfl⟩ : ∃ j : Fin 8, j.val = k := ⟨⟨k, h⟩, rfl⟩
    revert n v k; decide
  · simp [BitVec.getLsbD_of_ge _ _ h]

/-- SET sets bit `n` and keeps the others (R215). -/
theorem raiseBit_getLsbD (n : Fin 8) (v : Byte) (k : Nat) :
    (raiseBit n v).getLsbD k = (v.getLsbD k || k == n.val) := by
  rcases Nat.lt_or_ge k 8 with h | h
  · obtain ⟨k, rfl⟩ : ∃ j : Fin 8, j.val = k := ⟨⟨k, h⟩, rfl⟩
    revert n v k; decide
  · have := n.isLt
    simp [BitVec.getLsbD_of_ge _ _ h]; omega

/-! ### Control transfer -/

theorem callTo_spec (hs : s.RamWf) (a : Word) (len : Nat) : (callTo a len s).sp = s.sp - 2 ∧
    StoredWord s (callTo a len s) (s.sp - 2) (s.pc + BitVec.ofNat 16 len) ∧ RegsAndCtlKept s (callTo a len s) ∧
    (callTo a len s).pc = a := by
  refine ⟨by simp [callTo], (push16_storedWord hs _).congr ?_ ?_ ?_ ?_ ?_, ?_, rfl⟩ <;>
    simp [callTo, State.nextPc, RegsAndCtlKept, RegsKept, FlagsKept, CtlKept]

theorem returnOp_spec {lo hi : Byte} (h₁ : memRead8 s s.sp = .ok lo) (h₂ : memRead8 s (s.sp + 1) = .ok hi) :
    returnOp s = .next (s.popped.jump (wordOf hi lo)) := by
  simp only [returnOp, popWord, memRead16_ok h₁ h₂, withRead]

theorem returnEnable_spec {lo hi : Byte} (h₁ : memRead8 s s.sp = .ok lo) (h₂ : memRead8 s (s.sp + 1) = .ok hi) :
    returnEnable s = .next { s.popped.jump (wordOf hi lo) with ime := true } := by
  simp only [returnEnable, popWord, memRead16_ok h₁ h₂, withRead]

end Sys2Proof.Machine
end

