-- ==== Sys2Proof/Laws/Step.lean ====
section
/-! SUPPORT. Everything a step can do: how it completes, how it faults, that it never refuses. -/

namespace Sys2Proof.Machine

variable {s t : State}

theorem withRead_next {α : Type} {r : Except Fault α} {k : α → State} {u : State} (h : withRead r k = .next u) :
    ∃ v, r = .ok v ∧ u = k v := by
  cases r with
  | ok v => cases h; exact ⟨v, rfl, rfl⟩
  | error f => cases h

theorem withRead_fault {α : Type} {r : Except Fault α} {k : α → State} {f : Fault} (h : withRead r k = .fault f) :
    r = .error f := by
  cases r with
  | ok v => cases h
  | error e => cases h; rfl

theorem withRead_not_refused {α : Type} {r : Except Fault α} {k : α → State} {e : Refusal} :
    withRead r k ≠ .refused e := by
  cases r <;> intro h <;> cases h

theorem charge_next {d : Nat} {r : Result} (h : charge d r = .next t) : ∃ u, r = .next u ∧ t = u.addCycles d := by
  cases r with
  | next u => cases h; exact ⟨u, rfl, rfl⟩
  | fault f => cases h
  | refused e => cases h

theorem charge_fault {d : Nat} {r : Result} {f : Fault} (h : charge d r = .fault f) : r = .fault f := by
  cases r with
  | next u => cases h
  | fault e => cases h; rfl
  | refused e => cases h

/-- A completed fetch has read the opcode at `pc`. -/
theorem fetch_ok {op b1 b2 : Byte} (h : fetch s = .ok (op, b1, b2)) : memRead8 s s.pc = .ok op := by
  unfold fetch at h
  split at h
  · cases h
  · next o ho =>
    rw [ho]
    repeat' split at h
    all_goals (cases h; try rfl)

/-- A failed fetch is a failed read. -/
theorem fetch_error {f : Fault} (h : fetch s = .error f) : ∃ a, memRead8 s a = .error f := by
  unfold fetch at h
  repeat' split at h
  all_goals (cases h; try exact ⟨_, ‹_›⟩)

/-- A paused core only counts (R28, R33). -/
theorem step_paused (h : s.runState ≠ .running) : step s = .next (s.addCycles s.params.durIdle) := by
  unfold step; rw [if_neg h]

/-- How a step completes: it was idle, or it ran the instruction it fetched and was charged. -/
theorem step_next (h : step s = .next t) : (s.runState ≠ .running ∧ t = s.addCycles s.params.durIdle) ∨
    ∃ op b1 b2 u, s.runState = .running ∧ fetch s = .ok (op, b1, b2) ∧ exec (decodeOp op b1 b2) s = .next u ∧
      t = u.addCycles (stepDuration s op b1) := by
  unfold step at h
  split at h
  · next hr =>
    split at h
    · cases h
    · next op b1 b2 hf =>
      obtain ⟨u, h₁, h₂⟩ := charge_next h
      exact .inr ⟨op, b1, b2, u, hr, hf, h₁, h₂⟩
  · next hr => cases h; exact .inl ⟨hr, rfl⟩

/-- How a step faults: its fetch did, or the instruction it fetched. -/
theorem step_fault {f : Fault} (h : step s = .fault f) : s.runState = .running ∧ (fetch s = .error f ∨
    ∃ op b1 b2, fetch s = .ok (op, b1, b2) ∧ exec (decodeOp op b1 b2) s = .fault f) := by
  unfold step at h
  split at h
  · next hr =>
    refine ⟨hr, ?_⟩
    split at h
    · next e he => cases h; exact .inl he
    · next op b1 b2 hf => exact .inr ⟨op, b1, b2, hf, charge_fault h⟩
  · cases h

/-- An operation faults by the illegal opcode or by a failed data read. -/
theorem runForm_fault {g : Form} {f : Fault} (h : runForm g s = .fault f) :
    (∃ o, g = .illegal o ∧ f = .illegalOpcode s.pc o) ∨ ∃ a, memRead8 s a = .error f := by
  have of8 {a : Word} (h : memRead8 s a = .error f) :
      (∃ o, g = .illegal o ∧ f = .illegalOpcode s.pc o) ∨ ∃ a, memRead8 s a = .error f := .inr ⟨a, h⟩
  have of16 {a : Word} (h : memRead16 s a = .error f) :
      (∃ o, g = .illegal o ∧ f = .illegalOpcode s.pc o) ∨ ∃ a, memRead8 s a = .error f :=
    (memRead16_error h).elim of8 of8
  have ofOpnd {o : Opnd8} (h : readOpnd s o = .error f) :
      (∃ o, g = .illegal o ∧ f = .illegalOpcode s.pc o) ∨ ∃ a, memRead8 s a = .error f := by
    cases o with
    | reg r => cases h
    | memHl => exact of8 h
  cases g with
  | illegal o => cases h; exact .inl ⟨o, rfl, rfl⟩
  | escapeCb o => simp only [runForm, runEscape] at h; split at h <;> exact ofOpnd (withRead_fault h)
  | retCond cc =>
    simp only [runForm, returnCond] at h
    split at h
    · exact of16 (withRead_fault h)
    · cases h
  | ldAInd i => exact of8 (withRead_fault h)
  | ldRegMem r => exact of8 (withRead_fault h)
  | ldhAMem n => exact of8 (withRead_fault h)
  | ldAHighC => exact of8 (withRead_fault h)
  | ldAMem a => exact of8 (withRead_fault h)
  | inc8 o => exact ofOpnd (withRead_fault h)
  | dec8 o => exact ofOpnd (withRead_fault h)
  | alu op o => exact ofOpnd (withRead_fault h)
  | rot op o => exact ofOpnd (withRead_fault h)
  | bit n o => exact ofOpnd (withRead_fault h)
  | res n o => exact ofOpnd (withRead_fault h)
  | set n o => exact ofOpnd (withRead_fault h)
  | pop p => exact of16 (withRead_fault h)
  | ret => exact of16 (withRead_fault h)
  | reti => exact of16 (withRead_fault h)
  | _ => cases h

/-- No operation refuses. -/
theorem runForm_not_refused {g : Form} {e : Refusal} : runForm g s ≠ .refused e := by
  intro h
  cases g with
  | escapeCb o => simp only [runForm, runEscape] at h; split at h <;> exact withRead_not_refused h
  | retCond cc =>
    simp only [runForm, returnCond] at h
    split at h
    · exact withRead_not_refused h
    · cases h
  | ldAInd i => exact withRead_not_refused h
  | ldRegMem r => exact withRead_not_refused h
  | ldhAMem n => exact withRead_not_refused h
  | ldAHighC => exact withRead_not_refused h
  | ldAMem a => exact withRead_not_refused h
  | inc8 o => exact withRead_not_refused h
  | dec8 o => exact withRead_not_refused h
  | alu op o => exact withRead_not_refused h
  | rot op o => exact withRead_not_refused h
  | bit n o => exact withRead_not_refused h
  | res n o => exact withRead_not_refused h
  | set n o => exact withRead_not_refused h
  | pop p => exact withRead_not_refused h
  | ret => exact withRead_not_refused h
  | reti => exact withRead_not_refused h
  | _ => cases h

/-- No step refuses. -/
theorem step_not_refused {e : Refusal} : step s ≠ .refused e := by
  intro h
  unfold step at h
  split at h
  · split at h
    · cases h
    · next op b1 b2 hf =>
      cases hr : exec (decodeOp op b1 b2) s with
      | next u => rw [hr] at h; cases h
      | fault f => rw [hr] at h; cases h
      | refused r => rw [exec_eq_run] at hr; exact runForm_not_refused hr
  · cases h

end Sys2Proof.Machine
end

