-- ==== Sys2Proof/Laws/Environment.lean ====
section
/-! SUPPORT. What a move of the environment and a run can do. -/

namespace Sys2Proof.Machine

variable {s t : State}

/-- Everything a move of the environment can do (R67, R288, R310). -/
theorem envMove_cases {m : EnvMove} (h : s.envMove m = some t) :
    (m = .wake ∧ s.runState ≠ .running ∧ t = { s with runState := .running }) ∨
    (∃ a v, m = .writeRam a v ∧ inExtRegion s.params a = true ∧ t = { s with ram := s.ram.write a.toNat v }) ∨
    ∃ init ramBytes, m = .reset init ramBytes ∧ t = resetCore s init ramBytes := by
  cases m with
  | wake =>
    simp only [State.envMove] at h
    split at h
    · cases h
    · next hr => cases h; exact .inl ⟨rfl, hr, rfl⟩
  | writeRam a v =>
    simp only [State.envMove] at h
    split at h
    · next ha => cases h; exact .inr (.inl ⟨a, v, rfl, ha, rfl⟩)
    · cases h
  | reset init ramBytes => cases h; exact .inr (.inr ⟨init, ramBytes, rfl, rfl⟩)

/-- An address of `EXT_REGION` is one of main memory and lies in one of the ranges (R7). -/
theorem inExtRegion_iff {p : Params} {a : Word} : inExtRegion p a = true ↔
    0x8000 ≤ a.toNat ∧ ∃ lo hi, (lo, hi) ∈ p.extRegion ∧ lo.toNat ≤ a.toNat ∧ a.toNat ≤ hi.toNat := by
  simp [inExtRegion, BitVec.le_def]

/-- What every move and every step keeps, a run keeps; and it ends where `END_OF_RUN` holds (R313). -/
theorem runUntil_induction {P : State → Prop} (hm : ∀ s m t, P s → s.envMove m = some t → P t)
    (hs : ∀ s t, P s → step s = .next t → P t) {endOfRun : State → Bool} (rounds : List (List EnvMove)) :
    ∀ s t, P s → runUntil endOfRun rounds s = some t → endOfRun t = true ∧ P t := by
  have moves : ∀ (ms : List EnvMove) (s t : State), P s → s.envMoves ms = some t → P t := by
    intro ms
    induction ms with
    | nil => intro s t p h; cases h; exact p
    | cons m ms ih =>
      intro s t p h
      simp only [State.envMoves] at h
      split at h
      · next u hu => exact ih u t (hm s m u p hu) h
      · cases h
  induction rounds with
  | nil => intro s t p h; cases h
  | cons ms rounds ih =>
    intro s t p h
    simp only [runUntil] at h
    split at h
    · cases h
    · next u hu =>
      have pu := moves ms s u p hu
      split at h
      · next he => cases h; exact ⟨he, pu⟩
      · split at h
        · next w hw => exact ih w t (hs u w pu hw) h
        · cases h
        · cases h

end Sys2Proof.Machine
end

