-- ==== Sys2Proof/Laws/PerInstr.lean ====
section
/-! SUPPORT. Statements for all instructions, one lemma per constructor. `EncodedLength`: the encoding of an instruction
has the length that the length grid (R83) gives its first byte, and 1 to 3 bytes (R80). -/

namespace Sys2Proof.Laws.EncodedLength

/-- The encoding is as long as its first byte says, which is 1 to 3 bytes (R80, R83, R84). -/
def Statement (i : Instr) : Prop :=
  ∃ op rest, encode i = op :: rest ∧ (encode i).length = instrLength op ∧ instrLength op ≤ 3

theorem nop : Statement .nop :=
  ⟨_, _, rfl, rfl, by decide⟩
theorem ldBcD16 (n : Word) : Statement (.ldBcD16 n) :=
  ⟨_, _, rfl, rfl, by decide⟩
theorem ldMemBcA : Statement .ldMemBcA :=
  ⟨_, _, rfl, rfl, by decide⟩
theorem incBc : Statement .incBc :=
  ⟨_, _, rfl, rfl, by decide⟩
theorem incB : Statement .incB :=
  ⟨_, _, rfl, rfl, by decide⟩
theorem decB : Statement .decB :=
  ⟨_, _, rfl, rfl, by decide⟩
theorem ldBD8 (n : Byte) : Statement (.ldBD8 n) :=
  ⟨_, _, rfl, rfl, by decide⟩
theorem rlca : Statement .rlca :=
  ⟨_, _, rfl, rfl, by decide⟩
theorem ldMemA16Sp (a : Word) : Statement (.ldMemA16Sp a) :=
  ⟨_, _, rfl, rfl, by decide⟩
theorem addHlBc : Statement .addHlBc :=
  ⟨_, _, rfl, rfl, by decide⟩
theorem ldAMemBc : Statement .ldAMemBc :=
  ⟨_, _, rfl, rfl, by decide⟩
theorem decBc : Statement .decBc :=
  ⟨_, _, rfl, rfl, by decide⟩
theorem incC : Statement .incC :=
  ⟨_, _, rfl, rfl, by decide⟩
theorem decC : Statement .decC :=
  ⟨_, _, rfl, rfl, by decide⟩
theorem ldCD8 (n : Byte) : Statement (.ldCD8 n) :=
  ⟨_, _, rfl, rfl, by decide⟩
theorem rrca : Statement .rrca :=
  ⟨_, _, rfl, rfl, by decide⟩
theorem stop (n : Byte) : Statement (.stop n) :=
  ⟨_, _, rfl, rfl, by decide⟩
theorem ldDeD16 (n : Word) : Statement (.ldDeD16 n) :=
  ⟨_, _, rfl, rfl, by decide⟩
theorem ldMemDeA : Statement .ldMemDeA :=
  ⟨_, _, rfl, rfl, by decide⟩
theorem incDe : Statement .incDe :=
  ⟨_, _, rfl, rfl, by decide⟩
theorem incD : Statement .incD :=
  ⟨_, _, rfl, rfl, by decide⟩
theorem decD : Statement .decD :=
  ⟨_, _, rfl, rfl, by decide⟩
theorem ldDD8 (n : Byte) : Statement (.ldDD8 n) :=
  ⟨_, _, rfl, rfl, by decide⟩
theorem rla : Statement .rla :=
  ⟨_, _, rfl, rfl, by decide⟩
theorem jrE8 (e : Byte) : Statement (.jrE8 e) :=
  ⟨_, _, rfl, rfl, by decide⟩
theorem addHlDe : Statement .addHlDe :=
  ⟨_, _, rfl, rfl, by decide⟩
theorem ldAMemDe : Statement .ldAMemDe :=
  ⟨_, _, rfl, rfl, by decide⟩
theorem decDe : Statement .decDe :=
  ⟨_, _, rfl, rfl, by decide⟩
theorem incE : Statement .incE :=
  ⟨_, _, rfl, rfl, by decide⟩
theorem decE : Statement .decE :=
  ⟨_, _, rfl, rfl, by decide⟩
theorem ldED8 (n : Byte) : Statement (.ldED8 n) :=
  ⟨_, _, rfl, rfl, by decide⟩
theorem rra : Statement .rra :=
  ⟨_, _, rfl, rfl, by decide⟩
theorem jrNzE8 (e : Byte) : Statement (.jrNzE8 e) :=
  ⟨_, _, rfl, rfl, by decide⟩
theorem ldHlD16 (n : Word) : Statement (.ldHlD16 n) :=
  ⟨_, _, rfl, rfl, by decide⟩
theorem ldMemHlIncA : Statement .ldMemHlIncA :=
  ⟨_, _, rfl, rfl, by decide⟩
theorem incHl : Statement .incHl :=
  ⟨_, _, rfl, rfl, by decide⟩
theorem incH : Statement .incH :=
  ⟨_, _, rfl, rfl, by decide⟩
theorem decH : Statement .decH :=
  ⟨_, _, rfl, rfl, by decide⟩
theorem ldHD8 (n : Byte) : Statement (.ldHD8 n) :=
  ⟨_, _, rfl, rfl, by decide⟩
theorem daa : Statement .daa :=
  ⟨_, _, rfl, rfl, by decide⟩
theorem jrZE8 (e : Byte) : Statement (.jrZE8 e) :=
  ⟨_, _, rfl, rfl, by decide⟩
theorem addHlHl : Statement .addHlHl :=
  ⟨_, _, rfl, rfl, by decide⟩
theorem ldAMemHlInc : Statement .ldAMemHlInc :=
  ⟨_, _, rfl, rfl, by decide⟩
theorem decHl : Statement .decHl :=
  ⟨_, _, rfl, rfl, by decide⟩
theorem incL : Statement .incL :=
  ⟨_, _, rfl, rfl, by decide⟩
theorem decL : Statement .decL :=
  ⟨_, _, rfl, rfl, by decide⟩
theorem ldLD8 (n : Byte) : Statement (.ldLD8 n) :=
  ⟨_, _, rfl, rfl, by decide⟩
theorem cpl : Statement .cpl :=
  ⟨_, _, rfl, rfl, by decide⟩
theorem jrNcE8 (e : Byte) : Statement (.jrNcE8 e) :=
  ⟨_, _, rfl, rfl, by decide⟩
theorem ldSpD16 (n : Word) : Statement (.ldSpD16 n) :=
  ⟨_, _, rfl, rfl, by decide⟩
theorem ldMemHlDecA : Statement .ldMemHlDecA :=
  ⟨_, _, rfl, rfl, by decide⟩
theorem incSp : Statement .incSp :=
  ⟨_, _, rfl, rfl, by decide⟩
theorem incMemHl : Statement .incMemHl :=
  ⟨_, _, rfl, rfl, by decide⟩
theorem decMemHl : Statement .decMemHl :=
  ⟨_, _, rfl, rfl, by decide⟩
theorem ldMemHlD8 (n : Byte) : Statement (.ldMemHlD8 n) :=
  ⟨_, _, rfl, rfl, by decide⟩
theorem scf : Statement .scf :=
  ⟨_, _, rfl, rfl, by decide⟩
theorem jrCE8 (e : Byte) : Statement (.jrCE8 e) :=
  ⟨_, _, rfl, rfl, by decide⟩
theorem addHlSp : Statement .addHlSp :=
  ⟨_, _, rfl, rfl, by decide⟩
theorem ldAMemHlDec : Statement .ldAMemHlDec :=
  ⟨_, _, rfl, rfl, by decide⟩
theorem decSp : Statement .decSp :=
  ⟨_, _, rfl, rfl, by decide⟩
theorem incA : Statement .incA :=
  ⟨_, _, rfl, rfl, by decide⟩
theorem decA : Statement .decA :=
  ⟨_, _, rfl, rfl, by decide⟩
theorem ldAD8 (n : Byte) : Statement (.ldAD8 n) :=
  ⟨_, _, rfl, rfl, by decide⟩
theorem ccf : Statement .ccf :=
  ⟨_, _, rfl, rfl, by decide⟩
theorem ldBB : Statement .ldBB :=
  ⟨_, _, rfl, rfl, by decide⟩
theorem ldBC : Statement .ldBC :=
  ⟨_, _, rfl, rfl, by decide⟩
theorem ldBD : Statement .ldBD :=
  ⟨_, _, rfl, rfl, by decide⟩
theorem ldBE : Statement .ldBE :=
  ⟨_, _, rfl, rfl, by decide⟩
theorem ldBH : Statement .ldBH :=
  ⟨_, _, rfl, rfl, by decide⟩
theorem ldBL : Statement .ldBL :=
  ⟨_, _, rfl, rfl, by decide⟩
theorem ldBMemHl : Statement .ldBMemHl :=
  ⟨_, _, rfl, rfl, by decide⟩
theorem ldBA : Statement .ldBA :=
  ⟨_, _, rfl, rfl, by decide⟩
theorem ldCB : Statement .ldCB :=
  ⟨_, _, rfl, rfl, by decide⟩
theorem ldCC : Statement .ldCC :=
  ⟨_, _, rfl, rfl, by decide⟩
theorem ldCD : Statement .ldCD :=
  ⟨_, _, rfl, rfl, by decide⟩
theorem ldCE : Statement .ldCE :=
  ⟨_, _, rfl, rfl, by decide⟩
theorem ldCH : Statement .ldCH :=
  ⟨_, _, rfl, rfl, by decide⟩
theorem ldCL : Statement .ldCL :=
  ⟨_, _, rfl, rfl, by decide⟩
theorem ldCMemHl : Statement .ldCMemHl :=
  ⟨_, _, rfl, rfl, by decide⟩
theorem ldCA : Statement .ldCA :=
  ⟨_, _, rfl, rfl, by decide⟩
theorem ldDB : Statement .ldDB :=
  ⟨_, _, rfl, rfl, by decide⟩
theorem ldDC : Statement .ldDC :=
  ⟨_, _, rfl, rfl, by decide⟩
theorem ldDD : Statement .ldDD :=
  ⟨_, _, rfl, rfl, by decide⟩
theorem ldDE : Statement .ldDE :=
  ⟨_, _, rfl, rfl, by decide⟩
theorem ldDH : Statement .ldDH :=
  ⟨_, _, rfl, rfl, by decide⟩
theorem ldDL : Statement .ldDL :=
  ⟨_, _, rfl, rfl, by decide⟩
theorem ldDMemHl : Statement .ldDMemHl :=
  ⟨_, _, rfl, rfl, by decide⟩
theorem ldDA : Statement .ldDA :=
  ⟨_, _, rfl, rfl, by decide⟩
theorem ldEB : Statement .ldEB :=
  ⟨_, _, rfl, rfl, by decide⟩
theorem ldEC : Statement .ldEC :=
  ⟨_, _, rfl, rfl, by decide⟩
theorem ldED : Statement .ldED :=
  ⟨_, _, rfl, rfl, by decide⟩
theorem ldEE : Statement .ldEE :=
  ⟨_, _, rfl, rfl, by decide⟩
theorem ldEH : Statement .ldEH :=
  ⟨_, _, rfl, rfl, by decide⟩
theorem ldEL : Statement .ldEL :=
  ⟨_, _, rfl, rfl, by decide⟩
theorem ldEMemHl : Statement .ldEMemHl :=
  ⟨_, _, rfl, rfl, by decide⟩
theorem ldEA : Statement .ldEA :=
  ⟨_, _, rfl, rfl, by decide⟩
theorem ldHB : Statement .ldHB :=
  ⟨_, _, rfl, rfl, by decide⟩
theorem ldHC : Statement .ldHC :=
  ⟨_, _, rfl, rfl, by decide⟩
theorem ldHD : Statement .ldHD :=
  ⟨_, _, rfl, rfl, by decide⟩
theorem ldHE : Statement .ldHE :=
  ⟨_, _, rfl, rfl, by decide⟩
theorem ldHH : Statement .ldHH :=
  ⟨_, _, rfl, rfl, by decide⟩
theorem ldHL : Statement .ldHL :=
  ⟨_, _, rfl, rfl, by decide⟩
theorem ldHMemHl : Statement .ldHMemHl :=
  ⟨_, _, rfl, rfl, by decide⟩
theorem ldHA : Statement .ldHA :=
  ⟨_, _, rfl, rfl, by decide⟩
theorem ldLB : Statement .ldLB :=
  ⟨_, _, rfl, rfl, by decide⟩
theorem ldLC : Statement .ldLC :=
  ⟨_, _, rfl, rfl, by decide⟩
theorem ldLD : Statement .ldLD :=
  ⟨_, _, rfl, rfl, by decide⟩
theorem ldLE : Statement .ldLE :=
  ⟨_, _, rfl, rfl, by decide⟩
theorem ldLH : Statement .ldLH :=
  ⟨_, _, rfl, rfl, by decide⟩
theorem ldLL : Statement .ldLL :=
  ⟨_, _, rfl, rfl, by decide⟩
theorem ldLMemHl : Statement .ldLMemHl :=
  ⟨_, _, rfl, rfl, by decide⟩
theorem ldLA : Statement .ldLA :=
  ⟨_, _, rfl, rfl, by decide⟩
theorem ldMemHlB : Statement .ldMemHlB :=
  ⟨_, _, rfl, rfl, by decide⟩
theorem ldMemHlC : Statement .ldMemHlC :=
  ⟨_, _, rfl, rfl, by decide⟩
theorem ldMemHlD : Statement .ldMemHlD :=
  ⟨_, _, rfl, rfl, by decide⟩
theorem ldMemHlE : Statement .ldMemHlE :=
  ⟨_, _, rfl, rfl, by decide⟩
theorem ldMemHlH : Statement .ldMemHlH :=
  ⟨_, _, rfl, rfl, by decide⟩
theorem ldMemHlL : Statement .ldMemHlL :=
  ⟨_, _, rfl, rfl, by decide⟩
theorem halt : Statement .halt :=
  ⟨_, _, rfl, rfl, by decide⟩
theorem ldMemHlA : Statement .ldMemHlA :=
  ⟨_, _, rfl, rfl, by decide⟩
theorem ldAB : Statement .ldAB :=
  ⟨_, _, rfl, rfl, by decide⟩
theorem ldAC : Statement .ldAC :=
  ⟨_, _, rfl, rfl, by decide⟩
theorem ldAD : Statement .ldAD :=
  ⟨_, _, rfl, rfl, by decide⟩
theorem ldAE : Statement .ldAE :=
  ⟨_, _, rfl, rfl, by decide⟩
theorem ldAH : Statement .ldAH :=
  ⟨_, _, rfl, rfl, by decide⟩
theorem ldAL : Statement .ldAL :=
  ⟨_, _, rfl, rfl, by decide⟩
theorem ldAMemHl : Statement .ldAMemHl :=
  ⟨_, _, rfl, rfl, by decide⟩
theorem ldAA : Statement .ldAA :=
  ⟨_, _, rfl, rfl, by decide⟩
theorem addAB : Statement .addAB :=
  ⟨_, _, rfl, rfl, by decide⟩
theorem addAC : Statement .addAC :=
  ⟨_, _, rfl, rfl, by decide⟩
theorem addAD : Statement .addAD :=
  ⟨_, _, rfl, rfl, by decide⟩
theorem addAE : Statement .addAE :=
  ⟨_, _, rfl, rfl, by decide⟩
theorem addAH : Statement .addAH :=
  ⟨_, _, rfl, rfl, by decide⟩
theorem addAL : Statement .addAL :=
  ⟨_, _, rfl, rfl, by decide⟩
theorem addAMemHl : Statement .addAMemHl :=
  ⟨_, _, rfl, rfl, by decide⟩
theorem addAA : Statement .addAA :=
  ⟨_, _, rfl, rfl, by decide⟩
theorem adcAB : Statement .adcAB :=
  ⟨_, _, rfl, rfl, by decide⟩
theorem adcAC : Statement .adcAC :=
  ⟨_, _, rfl, rfl, by decide⟩
theorem adcAD : Statement .adcAD :=
  ⟨_, _, rfl, rfl, by decide⟩
theorem adcAE : Statement .adcAE :=
  ⟨_, _, rfl, rfl, by decide⟩
theorem adcAH : Statement .adcAH :=
  ⟨_, _, rfl, rfl, by decide⟩
theorem adcAL : Statement .adcAL :=
  ⟨_, _, rfl, rfl, by decide⟩
theorem adcAMemHl : Statement .adcAMemHl :=
  ⟨_, _, rfl, rfl, by decide⟩
theorem adcAA : Statement .adcAA :=
  ⟨_, _, rfl, rfl, by decide⟩
theorem subAB : Statement .subAB :=
  ⟨_, _, rfl, rfl, by decide⟩
theorem subAC : Statement .subAC :=
  ⟨_, _, rfl, rfl, by decide⟩
theorem subAD : Statement .subAD :=
  ⟨_, _, rfl, rfl, by decide⟩
theorem subAE : Statement .subAE :=
  ⟨_, _, rfl, rfl, by decide⟩
theorem subAH : Statement .subAH :=
  ⟨_, _, rfl, rfl, by decide⟩
theorem subAL : Statement .subAL :=
  ⟨_, _, rfl, rfl, by decide⟩
theorem subAMemHl : Statement .subAMemHl :=
  ⟨_, _, rfl, rfl, by decide⟩
theorem subAA : Statement .subAA :=
  ⟨_, _, rfl, rfl, by decide⟩
theorem sbcAB : Statement .sbcAB :=
  ⟨_, _, rfl, rfl, by decide⟩
theorem sbcAC : Statement .sbcAC :=
  ⟨_, _, rfl, rfl, by decide⟩
theorem sbcAD : Statement .sbcAD :=
  ⟨_, _, rfl, rfl, by decide⟩
theorem sbcAE : Statement .sbcAE :=
  ⟨_, _, rfl, rfl, by decide⟩
theorem sbcAH : Statement .sbcAH :=
  ⟨_, _, rfl, rfl, by decide⟩
theorem sbcAL : Statement .sbcAL :=
  ⟨_, _, rfl, rfl, by decide⟩
theorem sbcAMemHl : Statement .sbcAMemHl :=
  ⟨_, _, rfl, rfl, by decide⟩
theorem sbcAA : Statement .sbcAA :=
  ⟨_, _, rfl, rfl, by decide⟩
theorem andAB : Statement .andAB :=
  ⟨_, _, rfl, rfl, by decide⟩
theorem andAC : Statement .andAC :=
  ⟨_, _, rfl, rfl, by decide⟩
theorem andAD : Statement .andAD :=
  ⟨_, _, rfl, rfl, by decide⟩
theorem andAE : Statement .andAE :=
  ⟨_, _, rfl, rfl, by decide⟩
theorem andAH : Statement .andAH :=
  ⟨_, _, rfl, rfl, by decide⟩
theorem andAL : Statement .andAL :=
  ⟨_, _, rfl, rfl, by decide⟩
theorem andAMemHl : Statement .andAMemHl :=
  ⟨_, _, rfl, rfl, by decide⟩
theorem andAA : Statement .andAA :=
  ⟨_, _, rfl, rfl, by decide⟩
theorem xorAB : Statement .xorAB :=
  ⟨_, _, rfl, rfl, by decide⟩
theorem xorAC : Statement .xorAC :=
  ⟨_, _, rfl, rfl, by decide⟩
theorem xorAD : Statement .xorAD :=
  ⟨_, _, rfl, rfl, by decide⟩
theorem xorAE : Statement .xorAE :=
  ⟨_, _, rfl, rfl, by decide⟩
theorem xorAH : Statement .xorAH :=
  ⟨_, _, rfl, rfl, by decide⟩
theorem xorAL : Statement .xorAL :=
  ⟨_, _, rfl, rfl, by decide⟩
theorem xorAMemHl : Statement .xorAMemHl :=
  ⟨_, _, rfl, rfl, by decide⟩
theorem xorAA : Statement .xorAA :=
  ⟨_, _, rfl, rfl, by decide⟩
theorem orAB : Statement .orAB :=
  ⟨_, _, rfl, rfl, by decide⟩
theorem orAC : Statement .orAC :=
  ⟨_, _, rfl, rfl, by decide⟩
theorem orAD : Statement .orAD :=
  ⟨_, _, rfl, rfl, by decide⟩
theorem orAE : Statement .orAE :=
  ⟨_, _, rfl, rfl, by decide⟩
theorem orAH : Statement .orAH :=
  ⟨_, _, rfl, rfl, by decide⟩
theorem orAL : Statement .orAL :=
  ⟨_, _, rfl, rfl, by decide⟩
theorem orAMemHl : Statement .orAMemHl :=
  ⟨_, _, rfl, rfl, by decide⟩
theorem orAA : Statement .orAA :=
  ⟨_, _, rfl, rfl, by decide⟩
theorem cpAB : Statement .cpAB :=
  ⟨_, _, rfl, rfl, by decide⟩
theorem cpAC : Statement .cpAC :=
  ⟨_, _, rfl, rfl, by decide⟩
theorem cpAD : Statement .cpAD :=
  ⟨_, _, rfl, rfl, by decide⟩
theorem cpAE : Statement .cpAE :=
  ⟨_, _, rfl, rfl, by decide⟩
theorem cpAH : Statement .cpAH :=
  ⟨_, _, rfl, rfl, by decide⟩
theorem cpAL : Statement .cpAL :=
  ⟨_, _, rfl, rfl, by decide⟩
theorem cpAMemHl : Statement .cpAMemHl :=
  ⟨_, _, rfl, rfl, by decide⟩
theorem cpAA : Statement .cpAA :=
  ⟨_, _, rfl, rfl, by decide⟩
theorem retNz : Statement .retNz :=
  ⟨_, _, rfl, rfl, by decide⟩
theorem popBc : Statement .popBc :=
  ⟨_, _, rfl, rfl, by decide⟩
theorem jpNzA16 (a : Word) : Statement (.jpNzA16 a) :=
  ⟨_, _, rfl, rfl, by decide⟩
theorem jpA16 (a : Word) : Statement (.jpA16 a) :=
  ⟨_, _, rfl, rfl, by decide⟩
theorem callNzA16 (a : Word) : Statement (.callNzA16 a) :=
  ⟨_, _, rfl, rfl, by decide⟩
theorem pushBc : Statement .pushBc :=
  ⟨_, _, rfl, rfl, by decide⟩
theorem addAD8 (n : Byte) : Statement (.addAD8 n) :=
  ⟨_, _, rfl, rfl, by decide⟩
theorem rst00 : Statement .rst00 :=
  ⟨_, _, rfl, rfl, by decide⟩
theorem retZ : Statement .retZ :=
  ⟨_, _, rfl, rfl, by decide⟩
theorem ret : Statement .ret :=
  ⟨_, _, rfl, rfl, by decide⟩
theorem jpZA16 (a : Word) : Statement (.jpZA16 a) :=
  ⟨_, _, rfl, rfl, by decide⟩
theorem prefixCb (o : Byte) : Statement (.prefixCb o) :=
  ⟨_, _, rfl, rfl, by decide⟩
theorem callZA16 (a : Word) : Statement (.callZA16 a) :=
  ⟨_, _, rfl, rfl, by decide⟩
theorem callA16 (a : Word) : Statement (.callA16 a) :=
  ⟨_, _, rfl, rfl, by decide⟩
theorem adcAD8 (n : Byte) : Statement (.adcAD8 n) :=
  ⟨_, _, rfl, rfl, by decide⟩
theorem rst08 : Statement .rst08 :=
  ⟨_, _, rfl, rfl, by decide⟩
theorem retNc : Statement .retNc :=
  ⟨_, _, rfl, rfl, by decide⟩
theorem popDe : Statement .popDe :=
  ⟨_, _, rfl, rfl, by decide⟩
theorem jpNcA16 (a : Word) : Statement (.jpNcA16 a) :=
  ⟨_, _, rfl, rfl, by decide⟩
theorem illegalD3 : Statement .illegalD3 :=
  ⟨_, _, rfl, rfl, by decide⟩
theorem callNcA16 (a : Word) : Statement (.callNcA16 a) :=
  ⟨_, _, rfl, rfl, by decide⟩
theorem pushDe : Statement .pushDe :=
  ⟨_, _, rfl, rfl, by decide⟩
theorem subAD8 (n : Byte) : Statement (.subAD8 n) :=
  ⟨_, _, rfl, rfl, by decide⟩
theorem rst10 : Statement .rst10 :=
  ⟨_, _, rfl, rfl, by decide⟩
theorem retC : Statement .retC :=
  ⟨_, _, rfl, rfl, by decide⟩
theorem reti : Statement .reti :=
  ⟨_, _, rfl, rfl, by decide⟩
theorem jpCA16 (a : Word) : Statement (.jpCA16 a) :=
  ⟨_, _, rfl, rfl, by decide⟩
theorem illegalDB : Statement .illegalDB :=
  ⟨_, _, rfl, rfl, by decide⟩
theorem callCA16 (a : Word) : Statement (.callCA16 a) :=
  ⟨_, _, rfl, rfl, by decide⟩
theorem illegalDD : Statement .illegalDD :=
  ⟨_, _, rfl, rfl, by decide⟩
theorem sbcAD8 (n : Byte) : Statement (.sbcAD8 n) :=
  ⟨_, _, rfl, rfl, by decide⟩
theorem rst18 : Statement .rst18 :=
  ⟨_, _, rfl, rfl, by decide⟩
theorem ldhMemA8A (n : Byte) : Statement (.ldhMemA8A n) :=
  ⟨_, _, rfl, rfl, by decide⟩
theorem popHl : Statement .popHl :=
  ⟨_, _, rfl, rfl, by decide⟩
theorem ldMemCA : Statement .ldMemCA :=
  ⟨_, _, rfl, rfl, by decide⟩
theorem illegalE3 : Statement .illegalE3 :=
  ⟨_, _, rfl, rfl, by decide⟩
theorem illegalE4 : Statement .illegalE4 :=
  ⟨_, _, rfl, rfl, by decide⟩
theorem pushHl : Statement .pushHl :=
  ⟨_, _, rfl, rfl, by decide⟩
theorem andAD8 (n : Byte) : Statement (.andAD8 n) :=
  ⟨_, _, rfl, rfl, by decide⟩
theorem rst20 : Statement .rst20 :=
  ⟨_, _, rfl, rfl, by decide⟩
theorem addSpE8 (e : Byte) : Statement (.addSpE8 e) :=
  ⟨_, _, rfl, rfl, by decide⟩
theorem jpMemHl : Statement .jpMemHl :=
  ⟨_, _, rfl, rfl, by decide⟩
theorem ldMemA16A (a : Word) : Statement (.ldMemA16A a) :=
  ⟨_, _, rfl, rfl, by decide⟩
theorem illegalEB : Statement .illegalEB :=
  ⟨_, _, rfl, rfl, by decide⟩
theorem illegalEC : Statement .illegalEC :=
  ⟨_, _, rfl, rfl, by decide⟩
theorem illegalED : Statement .illegalED :=
  ⟨_, _, rfl, rfl, by decide⟩
theorem xorAD8 (n : Byte) : Statement (.xorAD8 n) :=
  ⟨_, _, rfl, rfl, by decide⟩
theorem rst28 : Statement .rst28 :=
  ⟨_, _, rfl, rfl, by decide⟩
theorem ldhAMemA8 (n : Byte) : Statement (.ldhAMemA8 n) :=
  ⟨_, _, rfl, rfl, by decide⟩
theorem popAf : Statement .popAf :=
  ⟨_, _, rfl, rfl, by decide⟩
theorem ldAMemC : Statement .ldAMemC :=
  ⟨_, _, rfl, rfl, by decide⟩
theorem di : Statement .di :=
  ⟨_, _, rfl, rfl, by decide⟩
theorem illegalF4 : Statement .illegalF4 :=
  ⟨_, _, rfl, rfl, by decide⟩
theorem pushAf : Statement .pushAf :=
  ⟨_, _, rfl, rfl, by decide⟩
theorem orAD8 (n : Byte) : Statement (.orAD8 n) :=
  ⟨_, _, rfl, rfl, by decide⟩
theorem rst30 : Statement .rst30 :=
  ⟨_, _, rfl, rfl, by decide⟩
theorem ldHlSpE8 (e : Byte) : Statement (.ldHlSpE8 e) :=
  ⟨_, _, rfl, rfl, by decide⟩
theorem ldSpHl : Statement .ldSpHl :=
  ⟨_, _, rfl, rfl, by decide⟩
theorem ldAMemA16 (a : Word) : Statement (.ldAMemA16 a) :=
  ⟨_, _, rfl, rfl, by decide⟩
theorem ei : Statement .ei :=
  ⟨_, _, rfl, rfl, by decide⟩
theorem illegalFC : Statement .illegalFC :=
  ⟨_, _, rfl, rfl, by decide⟩
theorem illegalFD : Statement .illegalFD :=
  ⟨_, _, rfl, rfl, by decide⟩
theorem cpAD8 (n : Byte) : Statement (.cpAD8 n) :=
  ⟨_, _, rfl, rfl, by decide⟩
theorem rst38 : Statement .rst38 :=
  ⟨_, _, rfl, rfl, by decide⟩
theorem cbRlcB : Statement .cbRlcB :=
  ⟨_, _, rfl, rfl, by decide⟩
theorem cbRlcC : Statement .cbRlcC :=
  ⟨_, _, rfl, rfl, by decide⟩
theorem cbRlcD : Statement .cbRlcD :=
  ⟨_, _, rfl, rfl, by decide⟩
theorem cbRlcE : Statement .cbRlcE :=
  ⟨_, _, rfl, rfl, by decide⟩
theorem cbRlcH : Statement .cbRlcH :=
  ⟨_, _, rfl, rfl, by decide⟩
theorem cbRlcL : Statement .cbRlcL :=
  ⟨_, _, rfl, rfl, by decide⟩
theorem cbRlcMemHl : Statement .cbRlcMemHl :=
  ⟨_, _, rfl, rfl, by decide⟩
theorem cbRlcA : Statement .cbRlcA :=
  ⟨_, _, rfl, rfl, by decide⟩
theorem cbRrcB : Statement .cbRrcB :=
  ⟨_, _, rfl, rfl, by decide⟩
theorem cbRrcC : Statement .cbRrcC :=
  ⟨_, _, rfl, rfl, by decide⟩
theorem cbRrcD : Statement .cbRrcD :=
  ⟨_, _, rfl, rfl, by decide⟩
theorem cbRrcE : Statement .cbRrcE :=
  ⟨_, _, rfl, rfl, by decide⟩
theorem cbRrcH : Statement .cbRrcH :=
  ⟨_, _, rfl, rfl, by decide⟩
theorem cbRrcL : Statement .cbRrcL :=
  ⟨_, _, rfl, rfl, by decide⟩
theorem cbRrcMemHl : Statement .cbRrcMemHl :=
  ⟨_, _, rfl, rfl, by decide⟩
theorem cbRrcA : Statement .cbRrcA :=
  ⟨_, _, rfl, rfl, by decide⟩
theorem cbRlB : Statement .cbRlB :=
  ⟨_, _, rfl, rfl, by decide⟩
theorem cbRlC : Statement .cbRlC :=
  ⟨_, _, rfl, rfl, by decide⟩
theorem cbRlD : Statement .cbRlD :=
  ⟨_, _, rfl, rfl, by decide⟩
theorem cbRlE : Statement .cbRlE :=
  ⟨_, _, rfl, rfl, by decide⟩
theorem cbRlH : Statement .cbRlH :=
  ⟨_, _, rfl, rfl, by decide⟩
theorem cbRlL : Statement .cbRlL :=
  ⟨_, _, rfl, rfl, by decide⟩
theorem cbRlMemHl : Statement .cbRlMemHl :=
  ⟨_, _, rfl, rfl, by decide⟩
theorem cbRlA : Statement .cbRlA :=
  ⟨_, _, rfl, rfl, by decide⟩
theorem cbRrB : Statement .cbRrB :=
  ⟨_, _, rfl, rfl, by decide⟩
theorem cbRrC : Statement .cbRrC :=
  ⟨_, _, rfl, rfl, by decide⟩
theorem cbRrD : Statement .cbRrD :=
  ⟨_, _, rfl, rfl, by decide⟩
theorem cbRrE : Statement .cbRrE :=
  ⟨_, _, rfl, rfl, by decide⟩
theorem cbRrH : Statement .cbRrH :=
  ⟨_, _, rfl, rfl, by decide⟩
theorem cbRrL : Statement .cbRrL :=
  ⟨_, _, rfl, rfl, by decide⟩
theorem cbRrMemHl : Statement .cbRrMemHl :=
  ⟨_, _, rfl, rfl, by decide⟩
theorem cbRrA : Statement .cbRrA :=
  ⟨_, _, rfl, rfl, by decide⟩
theorem cbSlaB : Statement .cbSlaB :=
  ⟨_, _, rfl, rfl, by decide⟩
theorem cbSlaC : Statement .cbSlaC :=
  ⟨_, _, rfl, rfl, by decide⟩
theorem cbSlaD : Statement .cbSlaD :=
  ⟨_, _, rfl, rfl, by decide⟩
theorem cbSlaE : Statement .cbSlaE :=
  ⟨_, _, rfl, rfl, by decide⟩
theorem cbSlaH : Statement .cbSlaH :=
  ⟨_, _, rfl, rfl, by decide⟩
theorem cbSlaL : Statement .cbSlaL :=
  ⟨_, _, rfl, rfl, by decide⟩
theorem cbSlaMemHl : Statement .cbSlaMemHl :=
  ⟨_, _, rfl, rfl, by decide⟩
theorem cbSlaA : Statement .cbSlaA :=
  ⟨_, _, rfl, rfl, by decide⟩
theorem cbSraB : Statement .cbSraB :=
  ⟨_, _, rfl, rfl, by decide⟩
theorem cbSraC : Statement .cbSraC :=
  ⟨_, _, rfl, rfl, by decide⟩
theorem cbSraD : Statement .cbSraD :=
  ⟨_, _, rfl, rfl, by decide⟩
theorem cbSraE : Statement .cbSraE :=
  ⟨_, _, rfl, rfl, by decide⟩
theorem cbSraH : Statement .cbSraH :=
  ⟨_, _, rfl, rfl, by decide⟩
theorem cbSraL : Statement .cbSraL :=
  ⟨_, _, rfl, rfl, by decide⟩
theorem cbSraMemHl : Statement .cbSraMemHl :=
  ⟨_, _, rfl, rfl, by decide⟩
theorem cbSraA : Statement .cbSraA :=
  ⟨_, _, rfl, rfl, by decide⟩
theorem cbSwapB : Statement .cbSwapB :=
  ⟨_, _, rfl, rfl, by decide⟩
theorem cbSwapC : Statement .cbSwapC :=
  ⟨_, _, rfl, rfl, by decide⟩
theorem cbSwapD : Statement .cbSwapD :=
  ⟨_, _, rfl, rfl, by decide⟩
theorem cbSwapE : Statement .cbSwapE :=
  ⟨_, _, rfl, rfl, by decide⟩
theorem cbSwapH : Statement .cbSwapH :=
  ⟨_, _, rfl, rfl, by decide⟩
theorem cbSwapL : Statement .cbSwapL :=
  ⟨_, _, rfl, rfl, by decide⟩
theorem cbSwapMemHl : Statement .cbSwapMemHl :=
  ⟨_, _, rfl, rfl, by decide⟩
theorem cbSwapA : Statement .cbSwapA :=
  ⟨_, _, rfl, rfl, by decide⟩
theorem cbSrlB : Statement .cbSrlB :=
  ⟨_, _, rfl, rfl, by decide⟩
theorem cbSrlC : Statement .cbSrlC :=
  ⟨_, _, rfl, rfl, by decide⟩
theorem cbSrlD : Statement .cbSrlD :=
  ⟨_, _, rfl, rfl, by decide⟩
theorem cbSrlE : Statement .cbSrlE :=
  ⟨_, _, rfl, rfl, by decide⟩
theorem cbSrlH : Statement .cbSrlH :=
  ⟨_, _, rfl, rfl, by decide⟩
theorem cbSrlL : Statement .cbSrlL :=
  ⟨_, _, rfl, rfl, by decide⟩
theorem cbSrlMemHl : Statement .cbSrlMemHl :=
  ⟨_, _, rfl, rfl, by decide⟩
theorem cbSrlA : Statement .cbSrlA :=
  ⟨_, _, rfl, rfl, by decide⟩
theorem cbBit0B : Statement .cbBit0B :=
  ⟨_, _, rfl, rfl, by decide⟩
theorem cbBit0C : Statement .cbBit0C :=
  ⟨_, _, rfl, rfl, by decide⟩
theorem cbBit0D : Statement .cbBit0D :=
  ⟨_, _, rfl, rfl, by decide⟩
theorem cbBit0E : Statement .cbBit0E :=
  ⟨_, _, rfl, rfl, by decide⟩
theorem cbBit0H : Statement .cbBit0H :=
  ⟨_, _, rfl, rfl, by decide⟩
theorem cbBit0L : Statement .cbBit0L :=
  ⟨_, _, rfl, rfl, by decide⟩
theorem cbBit0MemHl : Statement .cbBit0MemHl :=
  ⟨_, _, rfl, rfl, by decide⟩
theorem cbBit0A : Statement .cbBit0A :=
  ⟨_, _, rfl, rfl, by decide⟩
theorem cbBit1B : Statement .cbBit1B :=
  ⟨_, _, rfl, rfl, by decide⟩
theorem cbBit1C : Statement .cbBit1C :=
  ⟨_, _, rfl, rfl, by decide⟩
theorem cbBit1D : Statement .cbBit1D :=
  ⟨_, _, rfl, rfl, by decide⟩
theorem cbBit1E : Statement .cbBit1E :=
  ⟨_, _, rfl, rfl, by decide⟩
theorem cbBit1H : Statement .cbBit1H :=
  ⟨_, _, rfl, rfl, by decide⟩
theorem cbBit1L : Statement .cbBit1L :=
  ⟨_, _, rfl, rfl, by decide⟩
theorem cbBit1MemHl : Statement .cbBit1MemHl :=
  ⟨_, _, rfl, rfl, by decide⟩
theorem cbBit1A : Statement .cbBit1A :=
  ⟨_, _, rfl, rfl, by decide⟩
theorem cbBit2B : Statement .cbBit2B :=
  ⟨_, _, rfl, rfl, by decide⟩
theorem cbBit2C : Statement .cbBit2C :=
  ⟨_, _, rfl, rfl, by decide⟩
theorem cbBit2D : Statement .cbBit2D :=
  ⟨_, _, rfl, rfl, by decide⟩
theorem cbBit2E : Statement .cbBit2E :=
  ⟨_, _, rfl, rfl, by decide⟩
theorem cbBit2H : Statement .cbBit2H :=
  ⟨_, _, rfl, rfl, by decide⟩
theorem cbBit2L : Statement .cbBit2L :=
  ⟨_, _, rfl, rfl, by decide⟩
theorem cbBit2MemHl : Statement .cbBit2MemHl :=
  ⟨_, _, rfl, rfl, by decide⟩
theorem cbBit2A : Statement .cbBit2A :=
  ⟨_, _, rfl, rfl, by decide⟩
theorem cbBit3B : Statement .cbBit3B :=
  ⟨_, _, rfl, rfl, by decide⟩
theorem cbBit3C : Statement .cbBit3C :=
  ⟨_, _, rfl, rfl, by decide⟩
theorem cbBit3D : Statement .cbBit3D :=
  ⟨_, _, rfl, rfl, by decide⟩
theorem cbBit3E : Statement .cbBit3E :=
  ⟨_, _, rfl, rfl, by decide⟩
theorem cbBit3H : Statement .cbBit3H :=
  ⟨_, _, rfl, rfl, by decide⟩
theorem cbBit3L : Statement .cbBit3L :=
  ⟨_, _, rfl, rfl, by decide⟩
theorem cbBit3MemHl : Statement .cbBit3MemHl :=
  ⟨_, _, rfl, rfl, by decide⟩
theorem cbBit3A : Statement .cbBit3A :=
  ⟨_, _, rfl, rfl, by decide⟩
theorem cbBit4B : Statement .cbBit4B :=
  ⟨_, _, rfl, rfl, by decide⟩
theorem cbBit4C : Statement .cbBit4C :=
  ⟨_, _, rfl, rfl, by decide⟩
theorem cbBit4D : Statement .cbBit4D :=
  ⟨_, _, rfl, rfl, by decide⟩
theorem cbBit4E : Statement .cbBit4E :=
  ⟨_, _, rfl, rfl, by decide⟩
theorem cbBit4H : Statement .cbBit4H :=
  ⟨_, _, rfl, rfl, by decide⟩
theorem cbBit4L : Statement .cbBit4L :=
  ⟨_, _, rfl, rfl, by decide⟩
theorem cbBit4MemHl : Statement .cbBit4MemHl :=
  ⟨_, _, rfl, rfl, by decide⟩
theorem cbBit4A : Statement .cbBit4A :=
  ⟨_, _, rfl, rfl, by decide⟩
theorem cbBit5B : Statement .cbBit5B :=
  ⟨_, _, rfl, rfl, by decide⟩
theorem cbBit5C : Statement .cbBit5C :=
  ⟨_, _, rfl, rfl, by decide⟩
theorem cbBit5D : Statement .cbBit5D :=
  ⟨_, _, rfl, rfl, by decide⟩
theorem cbBit5E : Statement .cbBit5E :=
  ⟨_, _, rfl, rfl, by decide⟩
theorem cbBit5H : Statement .cbBit5H :=
  ⟨_, _, rfl, rfl, by decide⟩
theorem cbBit5L : Statement .cbBit5L :=
  ⟨_, _, rfl, rfl, by decide⟩
theorem cbBit5MemHl : Statement .cbBit5MemHl :=
  ⟨_, _, rfl, rfl, by decide⟩
theorem cbBit5A : Statement .cbBit5A :=
  ⟨_, _, rfl, rfl, by decide⟩
theorem cbBit6B : Statement .cbBit6B :=
  ⟨_, _, rfl, rfl, by decide⟩
theorem cbBit6C : Statement .cbBit6C :=
  ⟨_, _, rfl, rfl, by decide⟩
theorem cbBit6D : Statement .cbBit6D :=
  ⟨_, _, rfl, rfl, by decide⟩
theorem cbBit6E : Statement .cbBit6E :=
  ⟨_, _, rfl, rfl, by decide⟩
theorem cbBit6H : Statement .cbBit6H :=
  ⟨_, _, rfl, rfl, by decide⟩
theorem cbBit6L : Statement .cbBit6L :=
  ⟨_, _, rfl, rfl, by decide⟩
theorem cbBit6MemHl : Statement .cbBit6MemHl :=
  ⟨_, _, rfl, rfl, by decide⟩
theorem cbBit6A : Statement .cbBit6A :=
  ⟨_, _, rfl, rfl, by decide⟩
theorem cbBit7B : Statement .cbBit7B :=
  ⟨_, _, rfl, rfl, by decide⟩
theorem cbBit7C : Statement .cbBit7C :=
  ⟨_, _, rfl, rfl, by decide⟩
theorem cbBit7D : Statement .cbBit7D :=
  ⟨_, _, rfl, rfl, by decide⟩
theorem cbBit7E : Statement .cbBit7E :=
  ⟨_, _, rfl, rfl, by decide⟩
theorem cbBit7H : Statement .cbBit7H :=
  ⟨_, _, rfl, rfl, by decide⟩
theorem cbBit7L : Statement .cbBit7L :=
  ⟨_, _, rfl, rfl, by decide⟩
theorem cbBit7MemHl : Statement .cbBit7MemHl :=
  ⟨_, _, rfl, rfl, by decide⟩
theorem cbBit7A : Statement .cbBit7A :=
  ⟨_, _, rfl, rfl, by decide⟩
theorem cbRes0B : Statement .cbRes0B :=
  ⟨_, _, rfl, rfl, by decide⟩
theorem cbRes0C : Statement .cbRes0C :=
  ⟨_, _, rfl, rfl, by decide⟩
theorem cbRes0D : Statement .cbRes0D :=
  ⟨_, _, rfl, rfl, by decide⟩
theorem cbRes0E : Statement .cbRes0E :=
  ⟨_, _, rfl, rfl, by decide⟩
theorem cbRes0H : Statement .cbRes0H :=
  ⟨_, _, rfl, rfl, by decide⟩
theorem cbRes0L : Statement .cbRes0L :=
  ⟨_, _, rfl, rfl, by decide⟩
theorem cbRes0MemHl : Statement .cbRes0MemHl :=
  ⟨_, _, rfl, rfl, by decide⟩
theorem cbRes0A : Statement .cbRes0A :=
  ⟨_, _, rfl, rfl, by decide⟩
theorem cbRes1B : Statement .cbRes1B :=
  ⟨_, _, rfl, rfl, by decide⟩
theorem cbRes1C : Statement .cbRes1C :=
  ⟨_, _, rfl, rfl, by decide⟩
theorem cbRes1D : Statement .cbRes1D :=
  ⟨_, _, rfl, rfl, by decide⟩
theorem cbRes1E : Statement .cbRes1E :=
  ⟨_, _, rfl, rfl, by decide⟩
theorem cbRes1H : Statement .cbRes1H :=
  ⟨_, _, rfl, rfl, by decide⟩
theorem cbRes1L : Statement .cbRes1L :=
  ⟨_, _, rfl, rfl, by decide⟩
theorem cbRes1MemHl : Statement .cbRes1MemHl :=
  ⟨_, _, rfl, rfl, by decide⟩
theorem cbRes1A : Statement .cbRes1A :=
  ⟨_, _, rfl, rfl, by decide⟩
theorem cbRes2B : Statement .cbRes2B :=
  ⟨_, _, rfl, rfl, by decide⟩
theorem cbRes2C : Statement .cbRes2C :=
  ⟨_, _, rfl, rfl, by decide⟩
theorem cbRes2D : Statement .cbRes2D :=
  ⟨_, _, rfl, rfl, by decide⟩
theorem cbRes2E : Statement .cbRes2E :=
  ⟨_, _, rfl, rfl, by decide⟩
theorem cbRes2H : Statement .cbRes2H :=
  ⟨_, _, rfl, rfl, by decide⟩
theorem cbRes2L : Statement .cbRes2L :=
  ⟨_, _, rfl, rfl, by decide⟩
theorem cbRes2MemHl : Statement .cbRes2MemHl :=
  ⟨_, _, rfl, rfl, by decide⟩
theorem cbRes2A : Statement .cbRes2A :=
  ⟨_, _, rfl, rfl, by decide⟩
theorem cbRes3B : Statement .cbRes3B :=
  ⟨_, _, rfl, rfl, by decide⟩
theorem cbRes3C : Statement .cbRes3C :=
  ⟨_, _, rfl, rfl, by decide⟩
theorem cbRes3D : Statement .cbRes3D :=
  ⟨_, _, rfl, rfl, by decide⟩
theorem cbRes3E : Statement .cbRes3E :=
  ⟨_, _, rfl, rfl, by decide⟩
theorem cbRes3H : Statement .cbRes3H :=
  ⟨_, _, rfl, rfl, by decide⟩
theorem cbRes3L : Statement .cbRes3L :=
  ⟨_, _, rfl, rfl, by decide⟩
theorem cbRes3MemHl : Statement .cbRes3MemHl :=
  ⟨_, _, rfl, rfl, by decide⟩
theorem cbRes3A : Statement .cbRes3A :=
  ⟨_, _, rfl, rfl, by decide⟩
theorem cbRes4B : Statement .cbRes4B :=
  ⟨_, _, rfl, rfl, by decide⟩
theorem cbRes4C : Statement .cbRes4C :=
  ⟨_, _, rfl, rfl, by decide⟩
theorem cbRes4D : Statement .cbRes4D :=
  ⟨_, _, rfl, rfl, by decide⟩
theorem cbRes4E : Statement .cbRes4E :=
  ⟨_, _, rfl, rfl, by decide⟩
theorem cbRes4H : Statement .cbRes4H :=
  ⟨_, _, rfl, rfl, by decide⟩
theorem cbRes4L : Statement .cbRes4L :=
  ⟨_, _, rfl, rfl, by decide⟩
theorem cbRes4MemHl : Statement .cbRes4MemHl :=
  ⟨_, _, rfl, rfl, by decide⟩
theorem cbRes4A : Statement .cbRes4A :=
  ⟨_, _, rfl, rfl, by decide⟩
theorem cbRes5B : Statement .cbRes5B :=
  ⟨_, _, rfl, rfl, by decide⟩
theorem cbRes5C : Statement .cbRes5C :=
  ⟨_, _, rfl, rfl, by decide⟩
theorem cbRes5D : Statement .cbRes5D :=
  ⟨_, _, rfl, rfl, by decide⟩
theorem cbRes5E : Statement .cbRes5E :=
  ⟨_, _, rfl, rfl, by decide⟩
theorem cbRes5H : Statement .cbRes5H :=
  ⟨_, _, rfl, rfl, by decide⟩
theorem cbRes5L : Statement .cbRes5L :=
  ⟨_, _, rfl, rfl, by decide⟩
theorem cbRes5MemHl : Statement .cbRes5MemHl :=
  ⟨_, _, rfl, rfl, by decide⟩
theorem cbRes5A : Statement .cbRes5A :=
  ⟨_, _, rfl, rfl, by decide⟩
theorem cbRes6B : Statement .cbRes6B :=
  ⟨_, _, rfl, rfl, by decide⟩
theorem cbRes6C : Statement .cbRes6C :=
  ⟨_, _, rfl, rfl, by decide⟩
theorem cbRes6D : Statement .cbRes6D :=
  ⟨_, _, rfl, rfl, by decide⟩
theorem cbRes6E : Statement .cbRes6E :=
  ⟨_, _, rfl, rfl, by decide⟩
theorem cbRes6H : Statement .cbRes6H :=
  ⟨_, _, rfl, rfl, by decide⟩
theorem cbRes6L : Statement .cbRes6L :=
  ⟨_, _, rfl, rfl, by decide⟩
theorem cbRes6MemHl : Statement .cbRes6MemHl :=
  ⟨_, _, rfl, rfl, by decide⟩
theorem cbRes6A : Statement .cbRes6A :=
  ⟨_, _, rfl, rfl, by decide⟩
theorem cbRes7B : Statement .cbRes7B :=
  ⟨_, _, rfl, rfl, by decide⟩
theorem cbRes7C : Statement .cbRes7C :=
  ⟨_, _, rfl, rfl, by decide⟩
theorem cbRes7D : Statement .cbRes7D :=
  ⟨_, _, rfl, rfl, by decide⟩
theorem cbRes7E : Statement .cbRes7E :=
  ⟨_, _, rfl, rfl, by decide⟩
theorem cbRes7H : Statement .cbRes7H :=
  ⟨_, _, rfl, rfl, by decide⟩
theorem cbRes7L : Statement .cbRes7L :=
  ⟨_, _, rfl, rfl, by decide⟩
theorem cbRes7MemHl : Statement .cbRes7MemHl :=
  ⟨_, _, rfl, rfl, by decide⟩
theorem cbRes7A : Statement .cbRes7A :=
  ⟨_, _, rfl, rfl, by decide⟩
theorem cbSet0B : Statement .cbSet0B :=
  ⟨_, _, rfl, rfl, by decide⟩
theorem cbSet0C : Statement .cbSet0C :=
  ⟨_, _, rfl, rfl, by decide⟩
theorem cbSet0D : Statement .cbSet0D :=
  ⟨_, _, rfl, rfl, by decide⟩
theorem cbSet0E : Statement .cbSet0E :=
  ⟨_, _, rfl, rfl, by decide⟩
theorem cbSet0H : Statement .cbSet0H :=
  ⟨_, _, rfl, rfl, by decide⟩
theorem cbSet0L : Statement .cbSet0L :=
  ⟨_, _, rfl, rfl, by decide⟩
theorem cbSet0MemHl : Statement .cbSet0MemHl :=
  ⟨_, _, rfl, rfl, by decide⟩
theorem cbSet0A : Statement .cbSet0A :=
  ⟨_, _, rfl, rfl, by decide⟩
theorem cbSet1B : Statement .cbSet1B :=
  ⟨_, _, rfl, rfl, by decide⟩
theorem cbSet1C : Statement .cbSet1C :=
  ⟨_, _, rfl, rfl, by decide⟩
theorem cbSet1D : Statement .cbSet1D :=
  ⟨_, _, rfl, rfl, by decide⟩
theorem cbSet1E : Statement .cbSet1E :=
  ⟨_, _, rfl, rfl, by decide⟩
theorem cbSet1H : Statement .cbSet1H :=
  ⟨_, _, rfl, rfl, by decide⟩
theorem cbSet1L : Statement .cbSet1L :=
  ⟨_, _, rfl, rfl, by decide⟩
theorem cbSet1MemHl : Statement .cbSet1MemHl :=
  ⟨_, _, rfl, rfl, by decide⟩
theorem cbSet1A : Statement .cbSet1A :=
  ⟨_, _, rfl, rfl, by decide⟩
theorem cbSet2B : Statement .cbSet2B :=
  ⟨_, _, rfl, rfl, by decide⟩
theorem cbSet2C : Statement .cbSet2C :=
  ⟨_, _, rfl, rfl, by decide⟩
theorem cbSet2D : Statement .cbSet2D :=
  ⟨_, _, rfl, rfl, by decide⟩
theorem cbSet2E : Statement .cbSet2E :=
  ⟨_, _, rfl, rfl, by decide⟩
theorem cbSet2H : Statement .cbSet2H :=
  ⟨_, _, rfl, rfl, by decide⟩
theorem cbSet2L : Statement .cbSet2L :=
  ⟨_, _, rfl, rfl, by decide⟩
theorem cbSet2MemHl : Statement .cbSet2MemHl :=
  ⟨_, _, rfl, rfl, by decide⟩
theorem cbSet2A : Statement .cbSet2A :=
  ⟨_, _, rfl, rfl, by decide⟩
theorem cbSet3B : Statement .cbSet3B :=
  ⟨_, _, rfl, rfl, by decide⟩
theorem cbSet3C : Statement .cbSet3C :=
  ⟨_, _, rfl, rfl, by decide⟩
theorem cbSet3D : Statement .cbSet3D :=
  ⟨_, _, rfl, rfl, by decide⟩
theorem cbSet3E : Statement .cbSet3E :=
  ⟨_, _, rfl, rfl, by decide⟩
theorem cbSet3H : Statement .cbSet3H :=
  ⟨_, _, rfl, rfl, by decide⟩
theorem cbSet3L : Statement .cbSet3L :=
  ⟨_, _, rfl, rfl, by decide⟩
theorem cbSet3MemHl : Statement .cbSet3MemHl :=
  ⟨_, _, rfl, rfl, by decide⟩
theorem cbSet3A : Statement .cbSet3A :=
  ⟨_, _, rfl, rfl, by decide⟩
theorem cbSet4B : Statement .cbSet4B :=
  ⟨_, _, rfl, rfl, by decide⟩
theorem cbSet4C : Statement .cbSet4C :=
  ⟨_, _, rfl, rfl, by decide⟩
theorem cbSet4D : Statement .cbSet4D :=
  ⟨_, _, rfl, rfl, by decide⟩
theorem cbSet4E : Statement .cbSet4E :=
  ⟨_, _, rfl, rfl, by decide⟩
theorem cbSet4H : Statement .cbSet4H :=
  ⟨_, _, rfl, rfl, by decide⟩
theorem cbSet4L : Statement .cbSet4L :=
  ⟨_, _, rfl, rfl, by decide⟩
theorem cbSet4MemHl : Statement .cbSet4MemHl :=
  ⟨_, _, rfl, rfl, by decide⟩
theorem cbSet4A : Statement .cbSet4A :=
  ⟨_, _, rfl, rfl, by decide⟩
theorem cbSet5B : Statement .cbSet5B :=
  ⟨_, _, rfl, rfl, by decide⟩
theorem cbSet5C : Statement .cbSet5C :=
  ⟨_, _, rfl, rfl, by decide⟩
theorem cbSet5D : Statement .cbSet5D :=
  ⟨_, _, rfl, rfl, by decide⟩
theorem cbSet5E : Statement .cbSet5E :=
  ⟨_, _, rfl, rfl, by decide⟩
theorem cbSet5H : Statement .cbSet5H :=
  ⟨_, _, rfl, rfl, by decide⟩
theorem cbSet5L : Statement .cbSet5L :=
  ⟨_, _, rfl, rfl, by decide⟩
theorem cbSet5MemHl : Statement .cbSet5MemHl :=
  ⟨_, _, rfl, rfl, by decide⟩
theorem cbSet5A : Statement .cbSet5A :=
  ⟨_, _, rfl, rfl, by decide⟩
theorem cbSet6B : Statement .cbSet6B :=
  ⟨_, _, rfl, rfl, by decide⟩
theorem cbSet6C : Statement .cbSet6C :=
  ⟨_, _, rfl, rfl, by decide⟩
theorem cbSet6D : Statement .cbSet6D :=
  ⟨_, _, rfl, rfl, by decide⟩
theorem cbSet6E : Statement .cbSet6E :=
  ⟨_, _, rfl, rfl, by decide⟩
theorem cbSet6H : Statement .cbSet6H :=
  ⟨_, _, rfl, rfl, by decide⟩
theorem cbSet6L : Statement .cbSet6L :=
  ⟨_, _, rfl, rfl, by decide⟩
theorem cbSet6MemHl : Statement .cbSet6MemHl :=
  ⟨_, _, rfl, rfl, by decide⟩
theorem cbSet6A : Statement .cbSet6A :=
  ⟨_, _, rfl, rfl, by decide⟩
theorem cbSet7B : Statement .cbSet7B :=
  ⟨_, _, rfl, rfl, by decide⟩
theorem cbSet7C : Statement .cbSet7C :=
  ⟨_, _, rfl, rfl, by decide⟩
theorem cbSet7D : Statement .cbSet7D :=
  ⟨_, _, rfl, rfl, by decide⟩
theorem cbSet7E : Statement .cbSet7E :=
  ⟨_, _, rfl, rfl, by decide⟩
theorem cbSet7H : Statement .cbSet7H :=
  ⟨_, _, rfl, rfl, by decide⟩
theorem cbSet7L : Statement .cbSet7L :=
  ⟨_, _, rfl, rfl, by decide⟩
theorem cbSet7MemHl : Statement .cbSet7MemHl :=
  ⟨_, _, rfl, rfl, by decide⟩
theorem cbSet7A : Statement .cbSet7A :=
  ⟨_, _, rfl, rfl, by decide⟩

end Sys2Proof.Laws.EncodedLength
end

