-- ==== Sys2Proof/Tests/Slice0.lean ====
section
/-! SUPPORT. The model's own tests: ill-formed terms refused, words decoded, one step on the spec's test vectors
(95_test_vectors.md), and for every statement a state and operands that meet its hypotheses. Expected results are the
spec's. -/

open Sys2Proof Sys2Proof.Machine

namespace Sys2Proof.Tests

/-- The start state of 95_test_vectors.md: no byte listed, SP at 0xD000, `pc` at 0xC000, an image of 32 KiB.
The parameters are the defaults. -/
def base : State :=
  { af := 0, bc := 0, de := 0, hl := 0, sp := 0xD000#16, pc := 0xC000#16, ime := false, runState := .running, cyc := 0
    bankBase := 0x4000, ram := [], rom := [], romSize := 0x8000, params := defaultParams }

/-- What one step leaves, seen through `look`. -/
def after {α : Type} (s : State) (look : State → α) : Option α :=
  match step s with
  | .next t => some (look t)
  | _ => none

/-- The fault of one step. -/
def faultOf (s : State) : Option Fault :=
  match step s with
  | .fault f => some f
  | _ => none

/-- The instruction that `op` begins when 0x34 and 0x12 follow it. -/
def instrAt (op : Nat) : Option Instr :=
  match decode [opcode op, 0x34#8, 0x12#8] with
  | .ok (i, _) => some i
  | .error _ => none

/-- The instruction of the secondary table at `o`. -/
def cbInstrAt (o : Nat) : Option Instr :=
  match decode [0xCB#8, opcode o] with
  | .ok (i, []) => some i
  | _ => none

/-! ### Well-formedness -/

/-- R263: 0xCB is not an instruction of its own, whatever its second byte. -/
theorem test_wellFormed_refuses_escape :
    (Instr.prefixCb 0x00#8).wellFormed = false ∧ (Instr.prefixCb 0xFF#8).wellFormed = false := by decide

theorem test_wellFormed_accepts :
    (Instr.jpA16 0xFFFF#16).wellFormed = true ∧ (Instr.stop 0xD3#8).wellFormed = true ∧
      Instr.illegalFD.wellFormed = true ∧ Instr.cbSet7A.wellFormed = true := by decide

/-! ### Decoding: the two grids of R91 and R94, row by row -/

theorem test_decode_row_0 : (List.range 16).map (fun k => instrAt (0x00 + k)) =
    [some .nop, some (.ldBcD16 0x1234#16), some .ldMemBcA, some .incBc, some .incB, some .decB,
     some (.ldBD8 0x34#8), some .rlca, some (.ldMemA16Sp 0x1234#16), some .addHlBc, some .ldAMemBc, some .decBc,
     some .incC, some .decC, some (.ldCD8 0x34#8), some .rrca] := by
  decide

theorem test_decode_row_1 : (List.range 16).map (fun k => instrAt (0x10 + k)) =
    [some (.stop 0x34#8), some (.ldDeD16 0x1234#16), some .ldMemDeA, some .incDe, some .incD, some .decD,
     some (.ldDD8 0x34#8), some .rla, some (.jrE8 0x34#8), some .addHlDe, some .ldAMemDe, some .decDe, some .incE,
     some .decE, some (.ldED8 0x34#8), some .rra] := by
  decide

theorem test_decode_row_2 : (List.range 16).map (fun k => instrAt (0x20 + k)) =
    [some (.jrNzE8 0x34#8), some (.ldHlD16 0x1234#16), some .ldMemHlIncA, some .incHl, some .incH, some .decH,
     some (.ldHD8 0x34#8), some .daa, some (.jrZE8 0x34#8), some .addHlHl, some .ldAMemHlInc, some .decHl,
     some .incL, some .decL, some (.ldLD8 0x34#8), some .cpl] := by
  decide

theorem test_decode_row_3 : (List.range 16).map (fun k => instrAt (0x30 + k)) =
    [some (.jrNcE8 0x34#8), some (.ldSpD16 0x1234#16), some .ldMemHlDecA, some .incSp, some .incMemHl,
     some .decMemHl, some (.ldMemHlD8 0x34#8), some .scf, some (.jrCE8 0x34#8), some .addHlSp, some .ldAMemHlDec,
     some .decSp, some .incA, some .decA, some (.ldAD8 0x34#8), some .ccf] := by
  decide

theorem test_decode_row_4 : (List.range 16).map (fun k => instrAt (0x40 + k)) =
    [some .ldBB, some .ldBC, some .ldBD, some .ldBE, some .ldBH, some .ldBL, some .ldBMemHl, some .ldBA,
     some .ldCB, some .ldCC, some .ldCD, some .ldCE, some .ldCH, some .ldCL, some .ldCMemHl, some .ldCA] := by
  decide

theorem test_decode_row_5 : (List.range 16).map (fun k => instrAt (0x50 + k)) =
    [some .ldDB, some .ldDC, some .ldDD, some .ldDE, some .ldDH, some .ldDL, some .ldDMemHl, some .ldDA,
     some .ldEB, some .ldEC, some .ldED, some .ldEE, some .ldEH, some .ldEL, some .ldEMemHl, some .ldEA] := by
  decide

theorem test_decode_row_6 : (List.range 16).map (fun k => instrAt (0x60 + k)) =
    [some .ldHB, some .ldHC, some .ldHD, some .ldHE, some .ldHH, some .ldHL, some .ldHMemHl, some .ldHA,
     some .ldLB, some .ldLC, some .ldLD, some .ldLE, some .ldLH, some .ldLL, some .ldLMemHl, some .ldLA] := by
  decide

theorem test_decode_row_7 : (List.range 16).map (fun k => instrAt (0x70 + k)) =
    [some .ldMemHlB, some .ldMemHlC, some .ldMemHlD, some .ldMemHlE, some .ldMemHlH, some .ldMemHlL, some .halt,
     some .ldMemHlA, some .ldAB, some .ldAC, some .ldAD, some .ldAE, some .ldAH, some .ldAL, some .ldAMemHl,
     some .ldAA] := by
  decide

theorem test_decode_row_8 : (List.range 16).map (fun k => instrAt (0x80 + k)) =
    [some .addAB, some .addAC, some .addAD, some .addAE, some .addAH, some .addAL, some .addAMemHl, some .addAA,
     some .adcAB, some .adcAC, some .adcAD, some .adcAE, some .adcAH, some .adcAL, some .adcAMemHl, some .adcAA] := by
  decide

theorem test_decode_row_9 : (List.range 16).map (fun k => instrAt (0x90 + k)) =
    [some .subAB, some .subAC, some .subAD, some .subAE, some .subAH, some .subAL, some .subAMemHl, some .subAA,
     some .sbcAB, some .sbcAC, some .sbcAD, some .sbcAE, some .sbcAH, some .sbcAL, some .sbcAMemHl, some .sbcAA] := by
  decide

theorem test_decode_row_A : (List.range 16).map (fun k => instrAt (0xA0 + k)) =
    [some .andAB, some .andAC, some .andAD, some .andAE, some .andAH, some .andAL, some .andAMemHl, some .andAA,
     some .xorAB, some .xorAC, some .xorAD, some .xorAE, some .xorAH, some .xorAL, some .xorAMemHl, some .xorAA] := by
  decide

theorem test_decode_row_B : (List.range 16).map (fun k => instrAt (0xB0 + k)) =
    [some .orAB, some .orAC, some .orAD, some .orAE, some .orAH, some .orAL, some .orAMemHl, some .orAA,
     some .cpAB, some .cpAC, some .cpAD, some .cpAE, some .cpAH, some .cpAL, some .cpAMemHl, some .cpAA] := by
  decide

theorem test_decode_row_C : (List.range 16).map (fun k => instrAt (0xC0 + k)) =
    [some .retNz, some .popBc, some (.jpNzA16 0x1234#16), some (.jpA16 0x1234#16), some (.callNzA16 0x1234#16),
     some .pushBc, some (.addAD8 0x34#8), some .rst00, some .retZ, some .ret, some (.jpZA16 0x1234#16),
     some .cbSwapH, some (.callZA16 0x1234#16), some (.callA16 0x1234#16), some (.adcAD8 0x34#8), some .rst08] := by
  decide

theorem test_decode_row_D : (List.range 16).map (fun k => instrAt (0xD0 + k)) =
    [some .retNc, some .popDe, some (.jpNcA16 0x1234#16), some .illegalD3, some (.callNcA16 0x1234#16),
     some .pushDe, some (.subAD8 0x34#8), some .rst10, some .retC, some .reti, some (.jpCA16 0x1234#16),
     some .illegalDB, some (.callCA16 0x1234#16), some .illegalDD, some (.sbcAD8 0x34#8), some .rst18] := by
  decide

theorem test_decode_row_E : (List.range 16).map (fun k => instrAt (0xE0 + k)) =
    [some (.ldhMemA8A 0x34#8), some .popHl, some .ldMemCA, some .illegalE3, some .illegalE4, some .pushHl,
     some (.andAD8 0x34#8), some .rst20, some (.addSpE8 0x34#8), some .jpMemHl, some (.ldMemA16A 0x1234#16),
     some .illegalEB, some .illegalEC, some .illegalED, some (.xorAD8 0x34#8), some .rst28] := by
  decide

theorem test_decode_row_F : (List.range 16).map (fun k => instrAt (0xF0 + k)) =
    [some (.ldhAMemA8 0x34#8), some .popAf, some .ldAMemC, some .di, some .illegalF4, some .pushAf,
     some (.orAD8 0x34#8), some .rst30, some (.ldHlSpE8 0x34#8), some .ldSpHl, some (.ldAMemA16 0x1234#16),
     some .ei, some .illegalFC, some .illegalFD, some (.cpAD8 0x34#8), some .rst38] := by
  decide

theorem test_decode_cb_row_0 : (List.range 16).map (fun k => cbInstrAt (0x00 + k)) =
    [some .cbRlcB, some .cbRlcC, some .cbRlcD, some .cbRlcE, some .cbRlcH, some .cbRlcL, some .cbRlcMemHl,
     some .cbRlcA, some .cbRrcB, some .cbRrcC, some .cbRrcD, some .cbRrcE, some .cbRrcH, some .cbRrcL,
     some .cbRrcMemHl, some .cbRrcA] := by
  decide

theorem test_decode_cb_row_1 : (List.range 16).map (fun k => cbInstrAt (0x10 + k)) =
    [some .cbRlB, some .cbRlC, some .cbRlD, some .cbRlE, some .cbRlH, some .cbRlL, some .cbRlMemHl, some .cbRlA,
     some .cbRrB, some .cbRrC, some .cbRrD, some .cbRrE, some .cbRrH, some .cbRrL, some .cbRrMemHl, some .cbRrA] := by
  decide

theorem test_decode_cb_row_2 : (List.range 16).map (fun k => cbInstrAt (0x20 + k)) =
    [some .cbSlaB, some .cbSlaC, some .cbSlaD, some .cbSlaE, some .cbSlaH, some .cbSlaL, some .cbSlaMemHl,
     some .cbSlaA, some .cbSraB, some .cbSraC, some .cbSraD, some .cbSraE, some .cbSraH, some .cbSraL,
     some .cbSraMemHl, some .cbSraA] := by
  decide

theorem test_decode_cb_row_3 : (List.range 16).map (fun k => cbInstrAt (0x30 + k)) =
    [some .cbSwapB, some .cbSwapC, some .cbSwapD, some .cbSwapE, some .cbSwapH, some .cbSwapL, some .cbSwapMemHl,
     some .cbSwapA, some .cbSrlB, some .cbSrlC, some .cbSrlD, some .cbSrlE, some .cbSrlH, some .cbSrlL,
     some .cbSrlMemHl, some .cbSrlA] := by
  decide

theorem test_decode_cb_row_4 : (List.range 16).map (fun k => cbInstrAt (0x40 + k)) =
    [some .cbBit0B, some .cbBit0C, some .cbBit0D, some .cbBit0E, some .cbBit0H, some .cbBit0L, some .cbBit0MemHl,
     some .cbBit0A, some .cbBit1B, some .cbBit1C, some .cbBit1D, some .cbBit1E, some .cbBit1H, some .cbBit1L,
     some .cbBit1MemHl, some .cbBit1A] := by
  decide

theorem test_decode_cb_row_5 : (List.range 16).map (fun k => cbInstrAt (0x50 + k)) =
    [some .cbBit2B, some .cbBit2C, some .cbBit2D, some .cbBit2E, some .cbBit2H, some .cbBit2L, some .cbBit2MemHl,
     some .cbBit2A, some .cbBit3B, some .cbBit3C, some .cbBit3D, some .cbBit3E, some .cbBit3H, some .cbBit3L,
     some .cbBit3MemHl, some .cbBit3A] := by
  decide

theorem test_decode_cb_row_6 : (List.range 16).map (fun k => cbInstrAt (0x60 + k)) =
    [some .cbBit4B, some .cbBit4C, some .cbBit4D, some .cbBit4E, some .cbBit4H, some .cbBit4L, some .cbBit4MemHl,
     some .cbBit4A, some .cbBit5B, some .cbBit5C, some .cbBit5D, some .cbBit5E, some .cbBit5H, some .cbBit5L,
     some .cbBit5MemHl, some .cbBit5A] := by
  decide

theorem test_decode_cb_row_7 : (List.range 16).map (fun k => cbInstrAt (0x70 + k)) =
    [some .cbBit6B, some .cbBit6C, some .cbBit6D, some .cbBit6E, some .cbBit6H, some .cbBit6L, some .cbBit6MemHl,
     some .cbBit6A, some .cbBit7B, some .cbBit7C, some .cbBit7D, some .cbBit7E, some .cbBit7H, some .cbBit7L,
     some .cbBit7MemHl, some .cbBit7A] := by
  decide

theorem test_decode_cb_row_8 : (List.range 16).map (fun k => cbInstrAt (0x80 + k)) =
    [some .cbRes0B, some .cbRes0C, some .cbRes0D, some .cbRes0E, some .cbRes0H, some .cbRes0L, some .cbRes0MemHl,
     some .cbRes0A, some .cbRes1B, some .cbRes1C, some .cbRes1D, some .cbRes1E, some .cbRes1H, some .cbRes1L,
     some .cbRes1MemHl, some .cbRes1A] := by
  decide

theorem test_decode_cb_row_9 : (List.range 16).map (fun k => cbInstrAt (0x90 + k)) =
    [some .cbRes2B, some .cbRes2C, some .cbRes2D, some .cbRes2E, some .cbRes2H, some .cbRes2L, some .cbRes2MemHl,
     some .cbRes2A, some .cbRes3B, some .cbRes3C, some .cbRes3D, some .cbRes3E, some .cbRes3H, some .cbRes3L,
     some .cbRes3MemHl, some .cbRes3A] := by
  decide

theorem test_decode_cb_row_A : (List.range 16).map (fun k => cbInstrAt (0xA0 + k)) =
    [some .cbRes4B, some .cbRes4C, some .cbRes4D, some .cbRes4E, some .cbRes4H, some .cbRes4L, some .cbRes4MemHl,
     some .cbRes4A, some .cbRes5B, some .cbRes5C, some .cbRes5D, some .cbRes5E, some .cbRes5H, some .cbRes5L,
     some .cbRes5MemHl, some .cbRes5A] := by
  decide

theorem test_decode_cb_row_B : (List.range 16).map (fun k => cbInstrAt (0xB0 + k)) =
    [some .cbRes6B, some .cbRes6C, some .cbRes6D, some .cbRes6E, some .cbRes6H, some .cbRes6L, some .cbRes6MemHl,
     some .cbRes6A, some .cbRes7B, some .cbRes7C, some .cbRes7D, some .cbRes7E, some .cbRes7H, some .cbRes7L,
     some .cbRes7MemHl, some .cbRes7A] := by
  decide

theorem test_decode_cb_row_C : (List.range 16).map (fun k => cbInstrAt (0xC0 + k)) =
    [some .cbSet0B, some .cbSet0C, some .cbSet0D, some .cbSet0E, some .cbSet0H, some .cbSet0L, some .cbSet0MemHl,
     some .cbSet0A, some .cbSet1B, some .cbSet1C, some .cbSet1D, some .cbSet1E, some .cbSet1H, some .cbSet1L,
     some .cbSet1MemHl, some .cbSet1A] := by
  decide

theorem test_decode_cb_row_D : (List.range 16).map (fun k => cbInstrAt (0xD0 + k)) =
    [some .cbSet2B, some .cbSet2C, some .cbSet2D, some .cbSet2E, some .cbSet2H, some .cbSet2L, some .cbSet2MemHl,
     some .cbSet2A, some .cbSet3B, some .cbSet3C, some .cbSet3D, some .cbSet3E, some .cbSet3H, some .cbSet3L,
     some .cbSet3MemHl, some .cbSet3A] := by
  decide

theorem test_decode_cb_row_E : (List.range 16).map (fun k => cbInstrAt (0xE0 + k)) =
    [some .cbSet4B, some .cbSet4C, some .cbSet4D, some .cbSet4E, some .cbSet4H, some .cbSet4L, some .cbSet4MemHl,
     some .cbSet4A, some .cbSet5B, some .cbSet5C, some .cbSet5D, some .cbSet5E, some .cbSet5H, some .cbSet5L,
     some .cbSet5MemHl, some .cbSet5A] := by
  decide

theorem test_decode_cb_row_F : (List.range 16).map (fun k => cbInstrAt (0xF0 + k)) =
    [some .cbSet6B, some .cbSet6C, some .cbSet6D, some .cbSet6E, some .cbSet6H, some .cbSet6L, some .cbSet6MemHl,
     some .cbSet6A, some .cbSet7B, some .cbSet7C, some .cbSet7D, some .cbSet7E, some .cbSet7H, some .cbSet7L,
     some .cbSet7MemHl, some .cbSet7A] := by
  decide

/-! ### Decoding: words bit by bit, from the Encoding lines -/

/-- R111 `0b01yyyzzz`, R114 `0b00yyy110`: y = 1 (C), z = 2 (D). -/
theorem test_word_load8 : decode [0b01001010#8] = .ok (.ldCD, []) ∧ decode [0b00001110#8, 0x7F#8] = .ok (.ldCD8 0x7F#8, []) :=
  ⟨rfl, rfl⟩

/-- R141 `0b00pp0001`, little-endian; R147 `0b11pp0101`: p = 2 (HL). -/
theorem test_word_load16 : decode [0b00100001#8, 0xCD#8, 0xAB#8] = .ok (.ldHlD16 0xABCD#16, []) ∧
    decode [0b11100101#8] = .ok (.pushHl, []) := ⟨rfl, rfl⟩

/-- R160 `0b10yyyzzz` and `0b11yyy110`: y = 3 (SBC), z = 5 (L). -/
theorem test_word_alu8 : decode [0b10011101#8] = .ok (.sbcAL, []) ∧ decode [0b11011110#8, 0x80#8] = .ok (.sbcAD8 0x80#8, []) :=
  ⟨rfl, rfl⟩

/-- R190 `0b00pp1001`, R192 `0b00pp1011`: p = 3 (SP). -/
theorem test_word_alu16 : decode [0b00111001#8] = .ok (.addHlSp, []) ∧ decode [0b00111011#8] = .ok (.decSp, []) :=
  ⟨rfl, rfl⟩

/-- R94 `01yyyzzz` and `00yyyzzz` after 0xCB: BIT 5,H and SRA (HL). -/
theorem test_word_rotate : decode [0xCB#8, 0b01101100#8] = .ok (.cbBit5H, []) ∧
    decode [0xCB#8, 0b00101110#8] = .ok (.cbSraMemHl, []) := ⟨rfl, rfl⟩

/-- R237 `0b110cc100`: cc = 2 (NC); R241 `0b11yyy111`: y = 6. -/
theorem test_word_control : decode [0b11010100#8, 0x00#8, 0x80#8] = .ok (.callNcA16 0x8000#16, []) ∧
    decode [0b11110111#8] = .ok (.rst30, []) := ⟨rfl, rfl⟩

/-- R262, R265: STOP keeps its ignored byte; EI. -/
theorem test_word_system : decode [0b00010000#8, 0xFD#8] = .ok (.stop 0xFD#8, []) ∧ decode [0b11111011#8] = .ok (.ei, []) :=
  ⟨rfl, rfl⟩

/-- R97: the table's numbering of a row of the secondary table, and of a base row with an operand byte. -/
theorem test_tableWord : decodeTableWord 16 0xCB37 = some .cbSwapA ∧ decodeTableWord 8 0x76 = some .halt ∧
    decodeTableWord 16 0x2A3E = some (.ldAD8 0x2A#8) ∧ decodeTableWord 24 0xC000EA = some (.ldMemA16A 0xC000#16) := by
  decide

/-- R80: missing bytes. -/
theorem test_truncated : decode [] = .error .noBytes ∧ decode [0xCD#8, 0x00#8] = .error (.truncated 0xCD#8) :=
  ⟨rfl, rfl⟩

/-! ### One step on the spec's test vectors (95_test_vectors.md) -/

theorem test_V1_ldBC : after { base with bc := 0x005A#16, ram := [(0xC000, 0x41#8)] } (fun t => (t.reg8 .b, t.pc)) =
    some (0x5A#8, 0xC001#16) := by decide

theorem test_V2_ldAA : after { base with af := 0x77F0#16, ram := [(0xC000, 0x7F#8)] } (fun t => (t.pc, t.f)) =
    some (0xC001#16, 0xF0#8) := by decide

theorem test_V3_ldHMemHl :
    after { base with hl := 0xC123#16, ram := [(0xC000, 0x66#8), (0xC123, 0x9A#8)] }
      (fun t => (t.reg8 .h, t.pc)) =
    some (0x9A#8, 0xC001#16) := by decide

theorem test_V4_ldLMemHl :
    after { base with hl := 0xC123#16, ram := [(0xC000, 0x6E#8), (0xC123, 0x9A#8)] }
      (fun t => (t.reg8 .l, t.pc)) =
    some (0x9A#8, 0xC001#16) := by decide

theorem test_V5_ldMemHlH :
    after { base with hl := 0xC123#16, ram := [(0xC000, 0x74#8)] }
      (fun t => (t.pc, t.ram.read 0xC123)) =
    some (0xC001#16, 0xC1#8) := by decide

theorem test_V6_ldMemHlE :
    after { base with de := 0x0055#16, hl := 0x1000#16, ram := [(0xC000, 0x73#8)] }
      (fun t => t.pc) =
    some 0xC001#16 := by decide

theorem test_V9_ldED8 : after { base with ram := [(0xC000, 0x1E#8), (0xC001, 0xFF#8)] } (fun t => (t.reg8 .e, t.pc)) =
    some (0xFF#8, 0xC002#16) := by decide

theorem test_V10_ldMemHlD8 :
    after { base with hl := 0xC200#16, ram := [(0xC000, 0x36#8), (0xC001, 0x42#8)] }
      (fun t => (t.pc, t.ram.read 0xC200)) =
    some (0xC002#16, 0x42#8) := by decide

theorem test_V11_ldAMemBc :
    after { base with bc := 0xC300#16, ram := [(0xC000, 0x0A#8), (0xC300, 0x11#8)] }
      (fun t => (t.reg8 .a, t.pc)) =
    some (0x11#8, 0xC001#16) := by decide

theorem test_V12_ldAMemDe :
    after { base with de := 0xC301#16, ram := [(0xC000, 0x1A#8), (0xC301, 0x22#8)] }
      (fun t => (t.reg8 .a, t.pc)) =
    some (0x22#8, 0xC001#16) := by decide

theorem test_V13_ldMemBcA :
    after { base with af := 0x3300#16, bc := 0xC302#16, ram := [(0xC000, 0x02#8)] }
      (fun t => (t.pc, t.ram.read 0xC302)) =
    some (0xC001#16, 0x33#8) := by decide

theorem test_V14_ldMemDeA :
    after { base with af := 0x4400#16, de := 0xC303#16, ram := [(0xC000, 0x12#8)] }
      (fun t => (t.pc, t.ram.read 0xC303)) =
    some (0xC001#16, 0x44#8) := by decide

theorem test_V15_ldAMemA16 :
    after { base with ram := [(0xC000, 0xFA#8), (0xC002, 0xC4#8), (0xC400, 0x66#8)] }
      (fun t => (t.reg8 .a, t.pc)) =
    some (0x66#8, 0xC003#16) := by decide

theorem test_V16_ldMemA16A :
    after { base with af := 0x7700#16, ram := [(0xC000, 0xEA#8), (0xC001, 0x01#8), (0xC002, 0xC4#8)] }
      (fun t => (t.pc, t.ram.read 0xC401)) =
    some (0xC003#16, 0x77#8) := by decide

theorem test_V17_ldhAMemA8 :
    after { base with ram := [(0xC000, 0xF0#8), (0xC001, 0x44#8), (0xFF44, 0x90#8)] }
      (fun t => (t.reg8 .a, t.pc)) =
    some (0x90#8, 0xC002#16) := by decide

theorem test_V18_ldhMemA8A :
    after { base with af := 0x1F00#16, ram := [(0xC000, 0xE0#8), (0xC001, 0xFF#8)] }
      (fun t => (t.pc, t.ram.read 0xFFFF)) =
    some (0xC002#16, 0x1F#8) := by decide

theorem test_V19_ldAMemC :
    after { base with bc := 0x000F#16, ram := [(0xC000, 0xF2#8), (0xFF0F, 0x01#8)] }
      (fun t => (t.reg8 .a, t.pc)) =
    some (0x01#8, 0xC001#16) := by decide

theorem test_V20_ldMemCA :
    after { base with af := 0x9100#16, bc := 0x0040#16, ram := [(0xC000, 0xE2#8)] }
      (fun t => (t.pc, t.ram.read 0xFF40)) =
    some (0xC001#16, 0x91#8) := by decide

theorem test_V21_ldMemHlIncA :
    after { base with af := 0xAB00#16, hl := 0xC0FF#16, ram := [(0xC000, 0x22#8)] }
      (fun t => (t.reg8 .h, t.reg8 .l, t.pc, t.ram.read 0xC0FF)) =
    some (0xC1#8, 0x00#8, 0xC001#16, 0xAB#8) := by decide

theorem test_V22_ldMemHlIncA :
    after { base with af := 0xAB00#16, hl := 0xFFFF#16, ram := [(0xC000, 0x22#8)] }
      (fun t => (t.reg8 .h, t.reg8 .l, t.pc, t.ram.read 0xFFFF)) =
    some (0x00#8, 0x00#8, 0xC001#16, 0xAB#8) := by decide

theorem test_V23_ldAMemHlInc :
    after { base with hl := 0xC500#16, ram := [(0xC000, 0x2A#8), (0xC500, 0x5C#8)] }
      (fun t => (t.reg8 .a, t.reg8 .l, t.pc)) =
    some (0x5C#8, 0x01#8, 0xC001#16) := by decide

theorem test_V24_ldMemHlDecA :
    after { base with af := 0xCD00#16, hl := 0xC600#16, ram := [(0xC000, 0x32#8)] }
      (fun t => (t.reg8 .h, t.reg8 .l, t.pc, t.ram.read 0xC600)) =
    some (0xC5#8, 0xFF#8, 0xC001#16, 0xCD#8) := by decide

theorem test_V25_ldAMemHlDec :
    after { base with ram := [(0xC000, 0x3A#8)], rom := [(0x0, 0x3C#8)] }
      (fun t => (t.reg8 .a, t.reg8 .h, t.reg8 .l, t.pc)) =
    some (0x3C#8, 0xFF#8, 0xFF#8, 0xC001#16) := by decide

theorem test_V26_ldBcD16 :
    after { base with ram := [(0xC000, 0x01#8), (0xC001, 0xEF#8), (0xC002, 0xBE#8)] }
      (fun t => (t.reg8 .b, t.reg8 .c, t.pc)) =
    some (0xBE#8, 0xEF#8, 0xC003#16) := by decide

theorem test_V27_ldSpD16 :
    after { base with ram := [(0xC000, 0x31#8), (0xC001, 0xFE#8), (0xC002, 0xFF#8)] }
      (fun t => (t.sp, t.pc)) =
    some (0xFFFE#16, 0xC003#16) := by decide

theorem test_V28_ldMemA16Sp :
    after { base with sp := 0xFFF8#16, ram := [(0xC000, 0x08#8), (0xC002, 0xC1#8)] }
      (fun t => (t.pc, t.ram.read 0xC100, t.ram.read 0xC101)) =
    some (0xC003#16, 0xF8#8, 0xFF#8) := by decide

theorem test_V29_ldMemA16Sp :
    after { base with sp := 0x1234#16, ram := [(0xC000, 0x08#8), (0xC001, 0xFF#8), (0xC002, 0x7F#8)] }
      (fun t => (t.pc, t.ram.read 0x8000)) =
    some (0xC003#16, 0x12#8) := by decide

theorem test_V31_ldSpHl : after { base with hl := 0xDFFF#16, ram := [(0xC000, 0xF9#8)] } (fun t => (t.sp, t.pc)) =
    some (0xDFFF#16, 0xC001#16) := by decide

theorem test_V32_ldHlSpE8 :
    after { base with sp := 0xFFFD#16, ram := [(0xC000, 0xF8#8), (0xC001, 0x02#8)] }
      (fun t => (t.reg8 .h, t.reg8 .l, t.pc)) =
    some (0xFF#8, 0xFF#8, 0xC002#16) := by decide

theorem test_V33_ldHlSpE8 :
    after { base with af := 0x0080#16, hl := 0x5555#16, sp := 0xFFF8#16, ram := [(0xC000, 0xF8#8), (0xC001, 0x08#8)] }
      (fun t => (t.f, t.reg8 .h, t.reg8 .l, t.pc)) =
    some (0x30#8, 0x00#8, 0x00#8, 0xC002#16) := by decide

theorem test_V36_pushBc :
    after { base with bc := 0x1234#16, ram := [(0xC000, 0xC5#8)] }
      (fun t => (t.sp, t.pc, t.ram.read 0xCFFE, t.ram.read 0xCFFF)) =
    some (0xCFFE#16, 0xC001#16, 0x34#8, 0x12#8) := by decide

theorem test_V37_pushAf :
    after { base with af := 0x12F0#16, ram := [(0xC000, 0xF5#8)] }
      (fun t => (t.sp, t.pc, t.f, t.ram.read 0xCFFE, t.ram.read 0xCFFF)) =
    some (0xCFFE#16, 0xC001#16, 0xF0#8, 0xF0#8, 0x12#8) := by decide

theorem test_V38_pushHl :
    after { base with hl := 0xA1B2#16, sp := 0x0001#16, ram := [(0xC000, 0xE5#8)] }
      (fun t => (t.sp, t.pc, t.ram.read 0xFFFF)) =
    some (0xFFFF#16, 0xC001#16, 0xB2#8) := by decide

theorem test_V40_popHl :
    after { base with sp := 0xCFFE#16, ram := [(0xC000, 0xE1#8), (0xCFFE, 0x34#8), (0xCFFF, 0x12#8)] }
      (fun t => (t.reg8 .h, t.reg8 .l, t.sp, t.pc)) =
    some (0x12#8, 0x34#8, 0xD000#16, 0xC001#16) := by decide

theorem test_V41_popAf :
    after { base with sp := 0xCFFE#16, ram := [(0xC000, 0xF1#8), (0xCFFE, 0xFF#8), (0xCFFF, 0x12#8)] }
      (fun t => (t.reg8 .a, t.f, t.sp, t.pc)) =
    some (0x12#8, 0xF0#8, 0xD000#16, 0xC001#16) := by decide

theorem test_V42_popBc :
    after { base with sp := 0xFFFF#16, ram := [(0xC000, 0xC1#8), (0xFFFF, 0x77#8)], rom := [(0x0, 0x3C#8)] }
      (fun t => (t.reg8 .b, t.reg8 .c, t.sp, t.pc)) =
    some (0x3C#8, 0x77#8, 0x0001#16, 0xC001#16) := by decide

theorem test_V43_addAB :
    after { base with af := 0x3A00#16, bc := 0xC600#16, ram := [(0xC000, 0x80#8)] }
      (fun t => (t.reg8 .a, t.f, t.pc)) =
    some (0x00#8, 0xB0#8, 0xC001#16) := by decide

theorem test_V44_addAA :
    after { base with af := 0xFF00#16, ram := [(0xC000, 0x87#8)] }
      (fun t => (t.reg8 .a, t.f, t.pc)) =
    some (0xFE#8, 0x30#8, 0xC001#16) := by decide

theorem test_V47_adcAC :
    after { base with af := 0xFF10#16, ram := [(0xC000, 0x89#8)] }
      (fun t => (t.reg8 .a, t.f, t.pc)) =
    some (0x00#8, 0xB0#8, 0xC001#16) := by decide

theorem test_V48_adcAD8 :
    after { base with af := 0x7F10#16, ram := [(0xC000, 0xCE#8), (0xC001, 0x80#8)] }
      (fun t => (t.reg8 .a, t.f, t.pc)) =
    some (0x00#8, 0xB0#8, 0xC002#16) := by decide

theorem test_V50_subAD :
    after { base with de := 0x0100#16, ram := [(0xC000, 0x92#8)] }
      (fun t => (t.reg8 .a, t.f, t.pc)) =
    some (0xFF#8, 0x70#8, 0xC001#16) := by decide

theorem test_V51_subAA :
    after { base with af := 0x5C30#16, ram := [(0xC000, 0x97#8)] }
      (fun t => (t.reg8 .a, t.f, t.pc)) =
    some (0x00#8, 0xC0#8, 0xC001#16) := by decide

theorem test_V53_sbcAE :
    after { base with af := 0x0010#16, de := 0x00FF#16, ram := [(0xC000, 0x9B#8)] }
      (fun t => (t.f, t.pc)) =
    some (0xF0#8, 0xC001#16) := by decide

theorem test_V54_sbcAA :
    after { base with af := 0x4210#16, ram := [(0xC000, 0x9F#8)] }
      (fun t => (t.reg8 .a, t.f, t.pc)) =
    some (0xFF#8, 0x70#8, 0xC001#16) := by decide

theorem test_V56_andAH :
    after { base with af := 0x5A00#16, hl := 0x3F00#16, ram := [(0xC000, 0xA4#8)] }
      (fun t => (t.reg8 .a, t.f, t.pc)) =
    some (0x1A#8, 0x20#8, 0xC001#16) := by decide

theorem test_V57_andAD8 :
    after { base with af := 0xFF50#16, ram := [(0xC000, 0xE6#8)] }
      (fun t => (t.reg8 .a, t.f, t.pc)) =
    some (0x00#8, 0xA0#8, 0xC002#16) := by decide

theorem test_V58_xorAA :
    after { base with af := 0x5AF0#16, ram := [(0xC000, 0xAF#8)] }
      (fun t => (t.reg8 .a, t.f, t.pc)) =
    some (0x00#8, 0x80#8, 0xC001#16) := by decide

theorem test_V59_xorAD8 :
    after { base with af := 0x0F00#16, ram := [(0xC000, 0xEE#8), (0xC001, 0xFF#8)] }
      (fun t => (t.reg8 .a, t.pc)) =
    some (0xF0#8, 0xC002#16) := by decide

theorem test_V60_orAA : after { base with af := 0x0070#16, ram := [(0xC000, 0xB7#8)] } (fun t => (t.f, t.pc)) =
    some (0x80#8, 0xC001#16) := by decide

theorem test_V61_orAMemHl :
    after { base with af := 0x0100#16, hl := 0xC801#16, ram := [(0xC000, 0xB6#8), (0xC801, 0x80#8)] }
      (fun t => (t.reg8 .a, t.pc)) =
    some (0x81#8, 0xC001#16) := by decide

theorem test_V62_cpAL :
    after { base with af := 0x4200#16, hl := 0x0042#16, ram := [(0xC000, 0xBD#8)] }
      (fun t => (t.f, t.pc)) =
    some (0xC0#8, 0xC001#16) := by decide

theorem test_V63_cpAD8 :
    after { base with af := 0x3C00#16, ram := [(0xC000, 0xFE#8), (0xC001, 0x90#8)] }
      (fun t => (t.f, t.pc)) =
    some (0x50#8, 0xC002#16) := by decide

theorem test_V65_incA :
    after { base with af := 0xFF10#16, ram := [(0xC000, 0x3C#8)] }
      (fun t => (t.reg8 .a, t.f, t.pc)) =
    some (0x00#8, 0xB0#8, 0xC001#16) := by decide

theorem test_V66_incB :
    after { base with af := 0x00C0#16, bc := 0x0F00#16, ram := [(0xC000, 0x04#8)] }
      (fun t => (t.f, t.reg8 .b, t.pc)) =
    some (0x20#8, 0x10#8, 0xC001#16) := by decide

theorem test_V68_decC :
    after { base with af := 0x0010#16, ram := [(0xC000, 0x0D#8)] }
      (fun t => (t.f, t.reg8 .c, t.pc)) =
    some (0x70#8, 0xFF#8, 0xC001#16) := by decide

theorem test_V69_decL :
    after { base with hl := 0x0001#16, ram := [(0xC000, 0x2D#8)] }
      (fun t => (t.f, t.reg8 .l, t.pc)) =
    some (0xC0#8, 0x00#8, 0xC001#16) := by decide

theorem test_V71_daa : after { base with af := 0x0A00#16, ram := [(0xC000, 0x27#8)] } (fun t => (t.reg8 .a, t.pc)) =
    some (0x10#8, 0xC001#16) := by decide

theorem test_V72_daa :
    after { base with af := 0x9A00#16, ram := [(0xC000, 0x27#8)] }
      (fun t => (t.reg8 .a, t.f, t.pc)) =
    some (0x00#8, 0x90#8, 0xC001#16) := by decide

theorem test_V77_cpl :
    after { base with af := 0xFF10#16, ram := [(0xC000, 0x2F#8)] }
      (fun t => (t.reg8 .a, t.f, t.pc)) =
    some (0x00#8, 0x70#8, 0xC001#16) := by decide

theorem test_V78_scf : after { base with af := 0x00E0#16, ram := [(0xC000, 0x37#8)] } (fun t => (t.f, t.pc)) =
    some (0x90#8, 0xC001#16) := by decide

theorem test_V79_ccf : after { base with ram := [(0xC000, 0x3F#8)] } (fun t => (t.f, t.pc)) =
    some (0x10#8, 0xC001#16) := by decide

theorem test_V80_ccf : after { base with af := 0x00F0#16, ram := [(0xC000, 0x3F#8)] } (fun t => (t.f, t.pc)) =
    some (0x80#8, 0xC001#16) := by decide

theorem test_V81_addHlBc :
    after { base with af := 0x0080#16, bc := 0x0605#16, hl := 0x8A23#16, ram := [(0xC000, 0x09#8)] }
      (fun t => (t.f, t.reg8 .h, t.reg8 .l, t.pc)) =
    some (0xA0#8, 0x90#8, 0x28#8, 0xC001#16) := by decide

theorem test_V82_addHlHl :
    after { base with af := 0x0040#16, hl := 0x8000#16, ram := [(0xC000, 0x29#8)] }
      (fun t => (t.f, t.reg8 .h, t.pc)) =
    some (0x10#8, 0x00#8, 0xC001#16) := by decide

theorem test_V85_incBc :
    after { base with bc := 0xFFFF#16, ram := [(0xC000, 0x03#8)] }
      (fun t => (t.reg8 .b, t.reg8 .c, t.pc)) =
    some (0x00#8, 0x00#8, 0xC001#16) := by decide

theorem test_V86_incSp : after { base with sp := 0x00FF#16, ram := [(0xC000, 0x33#8)] } (fun t => (t.sp, t.pc)) =
    some (0x0100#16, 0xC001#16) := by decide

theorem test_V87_decDe : after { base with ram := [(0xC000, 0x1B#8)] } (fun t => (t.reg8 .d, t.reg8 .e, t.pc)) =
    some (0xFF#8, 0xFF#8, 0xC001#16) := by decide

theorem test_V88_decHl :
    after { base with af := 0x00F0#16, hl := 0x0100#16, ram := [(0xC000, 0x2B#8)] }
      (fun t => (t.reg8 .h, t.reg8 .l, t.pc, t.f)) =
    some (0x00#8, 0xFF#8, 0xC001#16, 0xF0#8) := by decide

theorem test_V89_addSpE8 :
    after { base with af := 0x0080#16, sp := 0xD004#16, ram := [(0xC000, 0xE8#8), (0xC001, 0xFC#8)] }
      (fun t => (t.f, t.sp, t.pc)) =
    some (0x30#8, 0xD000#16, 0xC002#16) := by decide

theorem test_V90_addSpE8 :
    after { base with sp := 0xFFFF#16, ram := [(0xC000, 0xE8#8), (0xC001, 0x01#8)] }
      (fun t => (t.f, t.sp, t.pc)) =
    some (0x30#8, 0x0000#16, 0xC002#16) := by decide

theorem test_V92_rlca :
    after { base with af := 0x85E0#16, ram := [(0xC000, 0x07#8)] }
      (fun t => (t.reg8 .a, t.f, t.pc)) =
    some (0x0B#8, 0x10#8, 0xC001#16) := by decide

theorem test_V93_rlca : after { base with af := 0x00F0#16, ram := [(0xC000, 0x07#8)] } (fun t => (t.f, t.pc)) =
    some (0x00#8, 0xC001#16) := by decide

theorem test_V94_rla :
    after { base with af := 0x9510#16, ram := [(0xC000, 0x17#8)] }
      (fun t => (t.reg8 .a, t.pc, t.f)) =
    some (0x2B#8, 0xC001#16, 0x10#8) := by decide

theorem test_V95_rla :
    after { base with af := 0x8000#16, ram := [(0xC000, 0x17#8)] }
      (fun t => (t.reg8 .a, t.f, t.pc)) =
    some (0x00#8, 0x10#8, 0xC001#16) := by decide

theorem test_V96_rrca :
    after { base with af := 0x3B00#16, ram := [(0xC000, 0x0F#8)] }
      (fun t => (t.reg8 .a, t.f, t.pc)) =
    some (0x9D#8, 0x10#8, 0xC001#16) := by decide

theorem test_V97_rra :
    after { base with af := 0x8100#16, ram := [(0xC000, 0x1F#8)] }
      (fun t => (t.reg8 .a, t.f, t.pc)) =
    some (0x40#8, 0x10#8, 0xC001#16) := by decide

theorem test_V98_rra :
    after { base with af := 0x0010#16, ram := [(0xC000, 0x1F#8)] }
      (fun t => (t.reg8 .a, t.f, t.pc)) =
    some (0x80#8, 0x00#8, 0xC001#16) := by decide

theorem test_V99_cbRlcB :
    after { base with bc := 0x8500#16, ram := [(0xC000, 0xCB#8)] }
      (fun t => (t.f, t.reg8 .b, t.pc)) =
    some (0x10#8, 0x0B#8, 0xC002#16) := by decide

theorem test_V100_cbRlcMemHl :
    after { base with hl := 0xC900#16, ram := [(0xC000, 0xCB#8), (0xC001, 0x06#8)] }
      (fun t => (t.f, t.pc)) =
    some (0x80#8, 0xC002#16) := by decide

theorem test_V101_cbRrcC :
    after { base with bc := 0x0001#16, ram := [(0xC000, 0xCB#8), (0xC001, 0x09#8)] }
      (fun t => (t.f, t.reg8 .c, t.pc)) =
    some (0x10#8, 0x80#8, 0xC002#16) := by decide

theorem test_V102_cbRlC :
    after { base with bc := 0x0080#16, ram := [(0xC000, 0xCB#8), (0xC001, 0x11#8)] }
      (fun t => (t.f, t.reg8 .c, t.pc)) =
    some (0x90#8, 0x00#8, 0xC002#16) := by decide

theorem test_V103_cbRlD :
    after { base with af := 0x0010#16, ram := [(0xC000, 0xCB#8), (0xC001, 0x12#8)] }
      (fun t => (t.f, t.reg8 .d, t.pc)) =
    some (0x00#8, 0x01#8, 0xC002#16) := by decide

theorem test_V104_cbRrD :
    after { base with af := 0x0010#16, de := 0x0200#16, ram := [(0xC000, 0xCB#8), (0xC001, 0x1A#8)] }
      (fun t => (t.f, t.reg8 .d, t.pc)) =
    some (0x00#8, 0x81#8, 0xC002#16) := by decide

theorem test_V105_cbRrA :
    after { base with af := 0x0100#16, ram := [(0xC000, 0xCB#8), (0xC001, 0x1F#8)] }
      (fun t => (t.reg8 .a, t.f, t.pc)) =
    some (0x00#8, 0x90#8, 0xC002#16) := by decide

theorem test_V106_cbSlaA :
    after { base with af := 0x4100#16, ram := [(0xC000, 0xCB#8), (0xC001, 0x27#8)] }
      (fun t => (t.reg8 .a, t.pc)) =
    some (0x82#8, 0xC002#16) := by decide

theorem test_V107_cbSlaE :
    after { base with af := 0x0010#16, de := 0x0080#16, ram := [(0xC000, 0xCB#8), (0xC001, 0x23#8)] }
      (fun t => (t.f, t.reg8 .e, t.pc)) =
    some (0x90#8, 0x00#8, 0xC002#16) := by decide

theorem test_V108_cbSraA :
    after { base with af := 0x8A00#16, ram := [(0xC000, 0xCB#8), (0xC001, 0x2F#8)] }
      (fun t => (t.reg8 .a, t.pc)) =
    some (0xC5#8, 0xC002#16) := by decide

theorem test_V109_cbSraH :
    after { base with hl := 0x0100#16, ram := [(0xC000, 0xCB#8), (0xC001, 0x2C#8)] }
      (fun t => (t.f, t.reg8 .h, t.pc)) =
    some (0x90#8, 0x00#8, 0xC002#16) := by decide

theorem test_V110_cbSwapA :
    after { base with af := 0xF110#16, ram := [(0xC000, 0xCB#8), (0xC001, 0x37#8)] }
      (fun t => (t.reg8 .a, t.f, t.pc)) =
    some (0x1F#8, 0x00#8, 0xC002#16) := by decide

theorem test_V111_cbSwapMemHl :
    after { base with af := 0x00F0#16, hl := 0xC901#16, ram := [(0xC000, 0xCB#8), (0xC001, 0x36#8)] }
      (fun t => (t.f, t.pc)) =
    some (0x80#8, 0xC002#16) := by decide

theorem test_V112_cbSrlA :
    after { base with af := 0x0100#16, ram := [(0xC000, 0xCB#8), (0xC001, 0x3F#8)] }
      (fun t => (t.reg8 .a, t.f, t.pc)) =
    some (0x00#8, 0x90#8, 0xC002#16) := by decide

theorem test_V113_cbSrlL :
    after { base with hl := 0x00FF#16, ram := [(0xC000, 0xCB#8), (0xC001, 0x3D#8)] }
      (fun t => (t.f, t.reg8 .l, t.pc)) =
    some (0x10#8, 0x7F#8, 0xC002#16) := by decide

theorem test_V114_cbBit7A :
    after { base with af := 0x8010#16, ram := [(0xC000, 0xCB#8), (0xC001, 0x7F#8)] }
      (fun t => (t.f, t.pc)) =
    some (0x30#8, 0xC002#16) := by decide

theorem test_V115_cbBit7A :
    after { base with af := 0x7F50#16, ram := [(0xC000, 0xCB#8), (0xC001, 0x7F#8)] }
      (fun t => (t.f, t.pc)) =
    some (0xB0#8, 0xC002#16) := by decide

theorem test_V118_cbRes0A :
    after { base with af := 0xFFF0#16, ram := [(0xC000, 0xCB#8), (0xC001, 0x87#8)] }
      (fun t => (t.reg8 .a, t.pc, t.f)) =
    some (0xFE#8, 0xC002#16, 0xF0#8) := by decide

theorem test_V119_cbRes7MemHl :
    after { base with hl := 0xC903#16, ram := [(0xC000, 0xCB#8), (0xC001, 0xBE#8), (0xC903, 0xFF#8)] }
      (fun t => (t.pc, t.ram.read 0xC903)) =
    some (0xC002#16, 0x7F#8) := by decide

theorem test_V121_cbSet7L :
    after { base with ram := [(0xC000, 0xCB#8), (0xC001, 0xFD#8)] }
      (fun t => (t.reg8 .l, t.pc)) =
    some (0x80#8, 0xC002#16) := by decide

theorem test_V122_cbSet0MemHl :
    after { base with hl := 0xC904#16, ram := [(0xC000, 0xCB#8), (0xC001, 0xC6#8)] }
      (fun t => (t.pc, t.ram.read 0xC904)) =
    some (0xC002#16, 0x01#8) := by decide

theorem test_V125_jpA16 :
    after { base with ram := [(0xC000, 0xC3#8), (0xC001, 0x50#8), (0xC002, 0x01#8)] }
      (fun t => t.pc) =
    some 0x0150#16 := by decide

theorem test_V126_jpZA16 :
    after { base with af := 0x0080#16, ram := [(0xC000, 0xCA#8), (0xC001, 0x34#8), (0xC002, 0x12#8)] }
      (fun t => (t.pc, t.f)) =
    some (0x1234#16, 0x80#8) := by decide

theorem test_V127_jpZA16 :
    after { base with ram := [(0xC000, 0xCA#8), (0xC001, 0x34#8), (0xC002, 0x12#8)] }
      (fun t => t.pc) =
    some 0xC003#16 := by decide

theorem test_V130_jpMemHl : after { base with hl := 0xC200#16, ram := [(0xC000, 0xE9#8)] } (fun t => t.pc) =
    some 0xC200#16 := by decide

theorem test_V131_jrE8 : after { base with ram := [(0xC000, 0x18#8), (0xC001, 0x05#8)] } (fun t => t.pc) =
    some 0xC007#16 := by decide

theorem test_V132_jrE8 : after { base with ram := [(0xC000, 0x18#8), (0xC001, 0xFE#8)] } (fun t => t.pc) =
    some 0xC000#16 := by decide

theorem test_V135_jrNzE8 : after { base with ram := [(0xC000, 0x20#8), (0xC001, 0xFC#8)] } (fun t => t.pc) =
    some 0xBFFE#16 := by decide

theorem test_V136_jrNzE8 :
    after { base with af := 0x0080#16, ram := [(0xC000, 0x20#8), (0xC001, 0xFC#8)] }
      (fun t => (t.pc, t.f)) =
    some (0xC002#16, 0x80#8) := by decide

theorem test_V139_callA16 :
    after { base with sp := 0xFFFE#16, ram := [(0xC000, 0xCD#8), (0xC002, 0xD0#8)] }
      (fun t => (t.sp, t.pc, t.ram.read 0xFFFC, t.ram.read 0xFFFD)) =
    some (0xFFFC#16, 0xD000#16, 0x03#8, 0xC0#8) := by decide

theorem test_V140_callNzA16 :
    after { base with af := 0x0080#16, sp := 0xFFFE#16, ram := [(0xC000, 0xC4#8), (0xC002, 0xD0#8)] }
      (fun t => (t.pc, t.f)) =
    some (0xC003#16, 0x80#8) := by decide

theorem test_V141_callCA16 :
    after { base with af := 0x0010#16, sp := 0xFFFE#16, ram := [(0xC000, 0xDC#8), (0xC002, 0xD0#8)] }
      (fun t => (t.sp, t.pc, t.f, t.ram.read 0xFFFC, t.ram.read 0xFFFD)) =
    some (0xFFFC#16, 0xD000#16, 0x10#8, 0x03#8, 0xC0#8) := by decide

theorem test_V142_ret :
    after { base with sp := 0xFFFC#16, pc := 0xD000#16, ram := [(0xD000, 0xC9#8), (0xFFFC, 0x03#8), (0xFFFD, 0xC0#8)] }
      (fun t => (t.sp, t.pc)) =
    some (0xFFFE#16, 0xC003#16) := by decide

theorem test_V143_retC :
    after { base with af := 0x0010#16, sp := 0xFFFC#16, pc := 0xD005#16, ram := [(0xD005, 0xD8#8), (0xFFFC, 0x03#8), (0xFFFD, 0xC0#8)] }
      (fun t => (t.sp, t.pc, t.f)) =
    some (0xFFFE#16, 0xC003#16, 0x10#8) := by decide

theorem test_V144_retC :
    after { base with sp := 0xFFFC#16, pc := 0xD005#16, ram := [(0xD005, 0xD8#8), (0xFFFC, 0x03#8), (0xFFFD, 0xC0#8)] }
      (fun t => t.pc) =
    some 0xD006#16 := by decide

theorem test_V145_reti :
    after { base with sp := 0xFFFC#16, ram := [(0xC000, 0xD9#8), (0xFFFC, 0x50#8), (0xFFFD, 0x01#8)] }
      (fun t => (t.sp, t.pc, t.ime)) =
    some (0xFFFE#16, 0x0150#16, true) := by decide

theorem test_V146_rst28 :
    after { base with sp := 0xD000#16, pc := 0x0200#16, rom := [(0x200, 0xEF#8)] }
      (fun t => (t.sp, t.pc, t.ram.read 0xCFFE, t.ram.read 0xCFFF)) =
    some (0xCFFE#16, 0x0028#16, 0x01#8, 0x02#8) := by decide

theorem test_V147_rst00 :
    after { base with sp := 0xD000#16, ram := [(0xC000, 0xC7#8)] }
      (fun t => (t.sp, t.pc, t.ram.read 0xCFFE, t.ram.read 0xCFFF)) =
    some (0xCFFE#16, 0x0000#16, 0x01#8, 0xC0#8) := by decide

theorem test_V149_nop : after base (fun t => t.pc) =
    some 0xC001#16 := by decide

theorem test_V150_nop : after { base with pc := 0xFFFF#16 } (fun t => t.pc) =
    some 0x0000#16 := by decide

theorem test_V151_halt : after { base with ram := [(0xC000, 0x76#8)] } (fun t => (t.pc, t.runState)) =
    some (0xC001#16, RunState.halted) := by decide

theorem test_V153_stop : after { base with ram := [(0xC000, 0x10#8)] } (fun t => (t.pc, t.runState)) =
    some (0xC002#16, RunState.stopped) := by decide

theorem test_V154_stop :
    after { base with ram := [(0xC000, 0x10#8), (0xC001, 0xDD#8)] }
      (fun t => (t.pc, t.runState)) =
    some (0xC002#16, RunState.stopped) := by decide

theorem test_V155_di : after { base with ime := true, ram := [(0xC000, 0xF3#8)] } (fun t => (t.pc, t.ime)) =
    some (0xC001#16, false) := by decide

theorem test_V156_ei : after { base with ram := [(0xC000, 0xFB#8)] } (fun t => (t.pc, t.ime)) =
    some (0xC001#16, true) := by decide

theorem test_V169_fetch :
    faultOf { base with pc := 0x4000#16, bankBase := 0xC000 } =
    some (.bankOutOfRange 0x4000 0xC000) := by decide

theorem test_V170_ldAMemHl :
    faultOf { base with af := 0x1100#16, hl := 0x7FFF#16, bankBase := 0x8000, ram := [(0xC000, 0x7E#8)] } =
    some (.bankOutOfRange 0x7FFF 0xBFFF) := by decide

theorem test_V171_ldAMemHlInc :
    faultOf { base with af := 0x1100#16, hl := 0x4000#16, bankBase := 0x7C000, ram := [(0xC000, 0x2A#8)] } =
    some (.bankOutOfRange 0x4000 0x7C000) := by decide

theorem test_V172_popBc :
    faultOf { base with sp := 0x7FFF#16, bankBase := 0x8000, ram := [(0xC000, 0xC1#8)] } =
    some (.bankOutOfRange 0x7FFF 0xBFFF) := by decide

theorem test_V173_ldAD8 :
    after { base with pc := 0x7FFF#16, ram := [(0x8000, 0x99#8)], rom := [(0x7FFF, 0x3E#8)] }
      (fun t => (t.reg8 .a, t.pc)) =
    some (0x99#8, 0x8001#16) := by decide

theorem test_V174_ldMemHlA :
    after { base with af := 0x1100#16, hl := 0x4000#16, bankBase := 0x7C000, ram := [(0xC000, 0x77#8)] }
      (fun t => t.pc) =
    some 0xC001#16 := by decide

theorem test_V175_ldMemHlD8 :
    after { base with hl := 0x2000#16, ram := [(0xC000, 0x36#8), (0xC001, 0x1F#8)] }
      (fun t => (t.pc, t.bankBase)) =
    some (0xC002#16, 0x7C000) := by decide

/-- V158 to V168: the eleven illegal bytes, with their address. -/
theorem test_V158_V168_illegal : illegalBytes.all (fun b =>
    faultOf { base with ram := [(0xC000, b)] } == some (.illegalOpcode 0xC000#16 b)) = true := by decide

/-- V152: the step after HALT is idle: only `cyc` changes. -/
theorem test_V152_idle : (State.driverStep { base with runState := .halted }).1 = .idle ∧
    (State.driverStep { base with runState := .halted }).2 = { base with runState := .halted, cyc := 4 } := by decide

/-- R36, R310: the values the spec gives for reset. -/
theorem test_reset : State.reset.runState = .running ∧ State.reset.pc = 0x0100#16 ∧ State.reset.ime = false ∧
    State.reset.bankBase = 0x4000 ∧ State.reset.cyc = 0 := by decide

/-- A word placed for the next fetch is the instruction the next step runs: LD A,0x2A from reset. -/
theorem test_withFetchWord : after (State.reset.withFetchWord 16 0x2A3E) (fun t => (t.a, t.pc)) =
    some (0x2A#8, 0x0102#16) := by decide

/-! ### Witnesses: for every statement with hypotheses, a state and operands that meet them -/

/-- The image of two banks; RAM bytes under the stack and at HL. -/
def stocked : State :=
  { base with hl := 0xC100#16, sp := 0xCFFE#16, ram := [(0xC100, 0x99#8), (0xCFFE, 0x34#8), (0xCFFF, 0x12#8)] }

/-- HL, SP, BC and DE at the first address beyond a small image. -/
def short : State :=
  { base with bc := 0x4000#16, de := 0x4000#16, hl := 0x4000#16, sp := 0x4000#16, romSize := 0x4000 }

/-- SP at the last byte of the image: the low byte of the stack word is readable, the high byte is not. -/
def splitStack : State := { base with sp := 0x3FFF#16, romSize := 0x4000 }

theorem short_read : memRead8 short 0x4000#16 = .error (.bankOutOfRange 0x4000#16 0x4000) := by
  simp [memRead8, State.romIndex, short, base]

theorem splitStack_low : memRead8 splitStack 0x3FFF#16 = .ok 0x00#8 := by
  simp [memRead8, State.romIndex, splitStack, base, Memory.read, Memory.unlisted]

theorem splitStack_high : memRead8 splitStack 0x4000#16 = .error (.bankOutOfRange 0x4000#16 0x4000) := by
  simp [memRead8, State.romIndex, splitStack, base]

theorem splitStack_word : memRead16 splitStack splitStack.sp = .error (.bankOutOfRange 0x4000#16 0x4000) := by
  simp only [memRead16, show splitStack.sp = 0x3FFF#16 from rfl, splitStack_low]
  rw [show (0x3FFF#16 + 1 : Word) = 0x4000#16 from rfl, splitStack_high]

theorem witness_LoadedImageReadsThroughDecoder :
    (0x0000#16).toNat < 0x8000 ∧ (0x3FFF#16).toNat < 0x8000 ∧
      (0x4000#16).toNat < 0x8000 ∧ (0x7FFF#16).toNat < 0x8000 := by decide

theorem witness_WritesReadBack : base.RamWf ∧ (0x8000 ≤ (0x8000#16).toNat ∧ (0x8000#16).toNat ≤ 0xFFFE) ∧
    (0x8000 ≤ (0xFFFE#16).toNat ∧ (0xFFFE#16).toNat ≤ 0xFFFE) ∧
    memRead16 (memWrite16 base 0xFFFE#16 0x1234#16) 0xFFFE#16 = .ok 0x1234#16 :=
  ⟨by decide, by decide, by decide, rfl⟩

theorem witness_BankWindowShowsSelectedBank :
    (0x2000 ≤ (0x2000#16).toNat ∧ (0x2000#16).toNat < 0x4000 ∧ (0x01#8).toNat % 32 ≠ 0) ∧
    (0x2000 ≤ (0x3FFF#16).toNat ∧ (0x3FFF#16).toNat < 0x4000 ∧ (0xFF#8).toNat % 32 ≠ 0) ∧
    ¬ (0x2000 ≤ (0x1FFF#16).toNat) ∧ ¬ ((0x4000#16).toNat < 0x4000) ∧ (0x7FFF#16).toNat < 0x8000 ∧
    ¬ ((0x20#8).toNat % 32 ≠ 0) := by decide

theorem witness_RegisterAccessorsObeyLaws : StackPair.bc ≠ .af ∧ StackPair.hl ≠ .af := by decide

theorem witness_DecodeOfEncode : (Instr.jpA16 0xFFFF#16).WellFormed ∧ Instr.nop.WellFormed ∧ Instr.cbSet7A.WellFormed := by
  decide

theorem witness_EncodeOfDecode : decode [0xC3#8, 0x50#8, 0x01#8, 0x00#8] = .ok (.jpA16 0x0150#16, [0x00#8]) := rfl

theorem witness_RegularBlocksFollowFields : (0x76#8).toNat / 64 = 1 ∧ (0x40#8).toNat / 64 = 1 ∧
    ((0xBF#8).toNat / 64 = 2 ∧ AluOp.cp.index = (0xBF#8).toNat / 8 % 8) ∧
    ((0xC6#8).toNat / 64 = 3 ∧ (0xC6#8).toNat % 8 = 6 ∧ AluOp.add.index = (0xC6#8).toNat / 8 % 8) ∧
    ((0x04#8).toNat / 64 = 0 ∧ (0x04#8).toNat % 8 = 4) ∧ ((0x3D#8).toNat / 64 = 0 ∧ (0x3D#8).toNat % 8 = 5) ∧
    ((0x36#8).toNat / 64 = 0 ∧ (0x36#8).toNat % 8 = 6) := by decide

theorem witness_IllegalBytesFault : 0xD3#8 ∈ illegalBytes ∧ 0xFD#8 ∈ illegalBytes ∧ 0xFB#8 ∉ illegalBytes ∧
    exec (decodeOp 0xD3#8 0 0) base = .fault (.illegalOpcode 0xC000#16 0xD3#8) :=
  ⟨by decide, by decide, by decide, rfl⟩

/-- LD BC,0x1234 at 0xC000. -/
def program : State := { base with ram := [(0xC000, 0x01#8), (0xC001, 0x34#8), (0xC002, 0x12#8)] }

theorem witness_StepRunsDecoded : program.runState = .running ∧ memRead8 program program.pc = .ok 0x01#8 ∧
    memRead8 program (program.pc + 1) = .ok 0x34#8 ∧ memRead8 program (program.pc + 2) = .ok 0x12#8 ∧
    [0x01#8, 0x34#8, 0x12#8].take (instrLength 0x01#8) = [0x01#8, 0x34#8, 0x12#8] ∧
    decode [0x01#8, 0x34#8, 0x12#8] = .ok (.ldBcD16 0x1234#16, []) :=
  ⟨rfl, rfl, rfl, rfl, rfl, rfl⟩

theorem witness_PausedCoreOnlyCounts : { base with runState := RunState.stopped }.runState ≠ .running ∧
    { base with runState := RunState.halted }.runState ≠ .running := by decide

/-- `pc` beyond the image; an illegal byte; byte 1 beyond the image; byte 2 beyond the image. -/
theorem witness_FetchFaultsInOrder :
    memRead8 { short with pc := 0x4000#16 } 0x4000#16 = .error (.bankOutOfRange 0x4000#16 0x4000) ∧
    (memRead8 { base with ram := [(0xC000, 0xED#8)] } 0xC000#16 = .ok 0xED#8 ∧ 0xED#8 ∈ illegalBytes) ∧
    (memRead8 { short with rom := [(0x3FFF, 0x3E#8)] } 0x3FFF#16 = .ok 0x3E#8 ∧ 2 ≤ instrLength 0x3E#8 ∧
      memRead8 { short with rom := [(0x3FFF, 0x3E#8)] } (0x3FFF#16 + 1) = .error (.bankOutOfRange 0x4000#16 0x4000)) ∧
    (memRead8 { short with rom := [(0x3FFE, 0xC3#8)] } 0x3FFE#16 = .ok 0xC3#8 ∧ instrLength 0xC3#8 = 3 ∧
      memRead8 { short with rom := [(0x3FFE, 0xC3#8)] } (0x3FFE#16 + 1) = .ok 0x00#8 ∧
      memRead8 { short with rom := [(0x3FFE, 0xC3#8)] } (0x3FFE#16 + 2) = .error (.bankOutOfRange 0x4000#16 0x4000)) :=
  ⟨by simp [memRead8, State.romIndex, short, base], ⟨rfl, by decide⟩,
    ⟨by simp [memRead8, State.romIndex, short, base, Memory.read], by decide,
      by simp [memRead8, State.romIndex, short, base]⟩,
    ⟨by simp [memRead8, State.romIndex, short, base, Memory.read], by decide,
      by simp [memRead8, State.romIndex, short, base, Memory.read, Memory.unlisted],
      by simp [memRead8, State.romIndex, short, base]⟩⟩

/-- Each of the four reports occurs. -/
theorem witness_StepReportsAreTheSpecs : program.driverStep.1 = .ok ∧
    (State.driverStep { base with runState := .halted }).1 = .idle ∧
    (State.driverStep { base with ram := [(0xC000, 0xDD#8)] }).1 = .illegalOpcode 0xC000#16 0xDD#8 ∧
    (State.driverStep { short with pc := 0x4000#16 }).1 = .bankOutOfRange 0x4000#16 0x4000 := by decide

theorem witness_FullImageNeverOutOfRange :
    State.BankLegal { base with romSize := 0x80000, bankBase := 0x7C000 } ∧
      0x80000 ≤ { base with romSize := 0x80000, bankBase := 0x7C000 }.romSize := by decide

theorem witness_StepKeepsInvariant : program.Inv ∧ step program = .next { program with bc := 0x1234#16, pc := 0xC003#16, cyc := 12 } :=
  ⟨by decide, rfl⟩

/-- Nothing beyond `INIT_RAM` and a parameter other than the default show in what reset leaves. -/
theorem witness_ResetMeetsInvariant : base.RomWf ∧
    memRead8 (resetCore base defaultInitRegs [0x12#8, 0x34#8]) 0x8001#16 = .ok 0x34#8 ∧
    memRead8 (resetCore base defaultInitRegs [0x12#8, 0x34#8]) 0x8002#16 = .ok Memory.unlisted ∧
    (resetCore { base with params := { defaultParams with resetPc := 0x0000#16 } } defaultInitRegs []).pc = 0x0000#16 ∧ (loadRom base [0x00#8, 0x3E#8]).RomWf := by decide

theorem witness_NoStepWritesRom : step program = .next { program with bc := 0x1234#16, pc := 0xC003#16, cyc := 12 } := rfl

/-- EI, RETI and DI change `ime`. -/
theorem witness_OnlyEiDiRetiWriteIme : after { base with ram := [(0xC000, 0xFB#8)] } (·.ime) = some true ∧
    after { base with ram := [(0xC000, 0xD9#8)] } (·.ime) = some true ∧
    after { base with ime := true, ram := [(0xC000, 0xF3#8)] } (·.ime) = some false := by decide

theorem witness_OnlyHaltAndStopPause : after { base with ram := [(0xC000, 0x76#8)] } (·.runState) = some .halted ∧
    after { base with ram := [(0xC000, 0x10#8)] } (·.runState) = some .stopped := by decide

theorem witness_EnvironmentMovesKeepInvariant : State.Inv { stocked with runState := .halted } ∧
    (State.envMove { stocked with runState := .halted } .wake).isSome = true ∧
    (State.envMove stocked (.writeRam 0xFF00#16 0x01#8)).isSome = true ∧
    (State.envMove stocked (.writeRam 0xFF7F#16 0x01#8)).isSome = true ∧
    (State.envMove stocked (.writeRam 0xFFFF#16 0x01#8)).isSome = true ∧
    (State.envMove stocked (.writeRam 0xFF80#16 0x01#8)) = none ∧
    (State.envMove stocked (.reset defaultInitRegs [])).isSome = true ∧
    (State.envMove { stocked with params := { defaultParams with extRegion := [(0x7FFF#16, 0x8000#16)] } }
      (.writeRam 0x8000#16 0x01#8)).isSome = true ∧
    (State.envMove { stocked with params := { defaultParams with extRegion := [(0x7FFF#16, 0x8000#16)] } }
      (.writeRam 0x7FFF#16 0x01#8)) = none := by decide

/-- A program that halts: the run ends after its one step, at the suggested end, unless `WAKE` is delivered; at once under
another `END_OF_RUN`; and not where the rounds give out. -/
def halting : State := { base with ram := [(0xC000, 0x76#8), (0xC001, 0x76#8)] }

theorem witness_EnvironmentMovesKeepInvariant_run : halting.Inv ∧
    (runUntil pausedAtEnd [[], []] halting).map (·.pc) = some 0xC001#16 ∧
    (runUntil pausedAtEnd [[], [.wake], []] halting).map (·.pc) = some 0xC002#16 ∧
    (runUntil (fun _ => true) [[]] halting).map (·.pc) = some 0xC000#16 ∧
    runUntil pausedAtEnd [[]] halting = none := by decide

/-- The tables are parameters: another machine charges other durations. -/
theorem test_durations_are_parameters :
    after { base with params := { defaultParams with durBase := [[7]] } } (·.cyc) = some 7 ∧
    after { base with runState := .halted, params := { defaultParams with durIdle := 9 } } (·.cyc) = some 9 ∧
    after base (·.cyc) = some 4 := by decide

theorem witness_DataReadsFault : Reads short Instr.ldBMemHl.form short.hl 1 ∧
    memRead8 short short.hl = .error (.bankOutOfRange 0x4000#16 0x4000) ∧
    Reads splitStack Instr.popBc.form splitStack.sp 2 ∧ memRead8 splitStack splitStack.sp = .ok 0x00#8 ∧
    memRead8 splitStack (splitStack.sp + 1) = .error (.bankOutOfRange 0x4000#16 0x4000) ∧
    Reads splitStack Instr.retNz.form splitStack.sp 2 :=
  ⟨.loadHl .b, short_read, .pop .bc, splitStack_low, splitStack_high, .retCond .nz rfl⟩

theorem witness_NoOtherFault : Instr.popBc.WellFormed ∧ (∀ op, Instr.popBc.form ≠ .illegal op) ∧
    ∀ a n, Reads stocked Instr.popBc.form a n → (∃ v, memRead8 stocked a = .ok v) ∧
      (n = 2 → ∃ v, memRead8 stocked (a + 1) = .ok v) :=
  ⟨rfl, fun _ h => by (injection h), fun _ _ h => by cases h; exact ⟨⟨_, rfl⟩, fun _ => ⟨_, rfl⟩⟩⟩

theorem witness_LoadRegisterFromRegister : Instr.ldBC.form = .ldRegReg .b .c ∧ Instr.ldAA.form = .ldRegReg .a .a := ⟨rfl, rfl⟩

theorem witness_LoadRegisterFromHl : Instr.ldHMemHl.form = .ldRegMem .h ∧ memRead8 stocked stocked.hl = .ok 0x99#8 ∧
    memRead8 short short.hl = .error (.bankOutOfRange 0x4000#16 0x4000) := ⟨rfl, rfl, short_read⟩

/-- A store into RAM, a bank select and an ignored write. -/
theorem witness_StoreToHl : stocked.RamWf ∧ Instr.ldMemHlB.form = .ldMemReg .b ∧
    (Instr.ldMemHlD8 0x1F#8).form = .ld8Imm .memHl 0x1F#8 ∧ State.RamWf { base with hl := 0x2000#16 } ∧
    State.RamWf { base with hl := 0x7FFF#16 } := ⟨by decide, rfl, rfl, by decide, by decide⟩

theorem witness_LoadRegisterImmediate : (Instr.ldAD8 0xFF#8).form = .ld8Imm (.reg .a) 0xFF#8 := rfl

theorem witness_LoadAFromMemory : memRead8 { stocked with bc := 0xC100#16 } 0xC100#16 = .ok 0x99#8 ∧
    memRead8 short short.bc = .error (.bankOutOfRange 0x4000#16 0x4000) := ⟨rfl, short_read⟩

theorem witness_StoreAToMemory : stocked.RamWf ∧ State.RamWf { base with bc := 0x2000#16, de := 0xFFFF#16 } := by decide

theorem witness_LoadStoreAndMoveHl : stocked.RamWf ∧ State.RamWf { base with hl := 0xFFFF#16 } ∧
    memRead8 { base with hl := 0xFFFF#16 } 0xFFFF#16 = .ok 0x00#8 ∧
    memRead8 short short.hl = .error (.bankOutOfRange 0x4000#16 0x4000) := ⟨by decide, by decide, rfl, short_read⟩

theorem witness_LoadPairs : (Instr.ldSpD16 0xFFFE#16).form = .ldPairImm .sp 0xFFFE#16 ∧
    (Instr.ldBcD16 0x0000#16).form = .ldPairImm .bc 0x0000#16 := ⟨rfl, rfl⟩

theorem witness_StoreStackPointer : stocked.RamWf := by decide

/-- The pushed word lands in RAM, below it, or across its lower edge. -/
theorem witness_PushStoresPair : Instr.pushAf.form = .push .af ∧ Instr.pushBc.form = .push .bc ∧ stocked.RamWf ∧
    State.RamWf { base with sp := 0x8001#16 } ∧ State.RamWf { base with sp := 0x0001#16 } :=
  ⟨rfl, rfl, by decide, by decide, by decide⟩

theorem witness_PopLoadsPair : Instr.popAf.form = .pop .af ∧ Instr.popHl.form = .pop .hl ∧
    memRead8 stocked stocked.sp = .ok 0x34#8 ∧ memRead8 stocked (stocked.sp + 1) = .ok 0x12#8 ∧
    memRead16 splitStack splitStack.sp = .error (.bankOutOfRange 0x4000#16 0x4000) := ⟨rfl, rfl, rfl, rfl, splitStack_word⟩

theorem witness_PushThenPopTransfersPair : Instr.pushAf.form = .push .af ∧ Instr.popBc.form = .pop .bc ∧
    State.RamWf { base with sp := 0x8002#16 } ∧ 0x8000 ≤ ((0x8002#16 : Word) - 2).toNat ∧
    0x8000 ≤ ((0x0001#16 : Word) - 2).toNat ∧ 0x8000 ≤ ((0x8002#16 : Word) - 1).toNat :=
  ⟨rfl, rfl, by decide, by decide, by decide, by decide⟩

theorem witness_AddToAccumulator : AluOperand .addAB .add stocked 0x00#8 [0x80#8] ∧
    AluOperand .adcAMemHl .adc stocked 0x99#8 [0x8E#8] ∧ AluOperand (.addAD8 0xFF#8) .add stocked 0xFF#8 [0xC6#8, 0xFF#8] ∧
    Instr.adcAMemHl.form = .alu .adc .memHl ∧ memRead8 short short.hl = .error (.bankOutOfRange 0x4000#16 0x4000) :=
  ⟨.inl ⟨.b, rfl, rfl, rfl⟩, .inr (.inl ⟨rfl, rfl, rfl⟩), .inr (.inr ⟨rfl, rfl⟩), rfl, short_read⟩

theorem witness_SubtractFromAccumulator : AluOperand .subAA .sub stocked 0x00#8 [0x97#8] ∧
    AluOperand .sbcAMemHl .sbc stocked 0x99#8 [0x9E#8] ∧ AluOperand (.cpAD8 0x90#8) .cp stocked 0x90#8 [0xFE#8, 0x90#8] ∧
    Instr.cpAMemHl.form = .alu .cp .memHl ∧ memRead8 short short.hl = .error (.bankOutOfRange 0x4000#16 0x4000) :=
  ⟨.inl ⟨.a, rfl, rfl, rfl⟩, .inr (.inl ⟨rfl, rfl, rfl⟩), .inr (.inr ⟨rfl, rfl⟩), rfl, short_read⟩

theorem witness_LogicOnAccumulator : AluOperand .andAA .and stocked 0x00#8 [0xA7#8] ∧
    AluOperand .xorAMemHl .xor stocked 0x99#8 [0xAE#8] ∧ AluOperand (.orAD8 0x0F#8) .or stocked 0x0F#8 [0xF6#8, 0x0F#8] ∧
    Instr.orAMemHl.form = .alu .or .memHl ∧ memRead8 short short.hl = .error (.bankOutOfRange 0x4000#16 0x4000) :=
  ⟨.inl ⟨.a, rfl, rfl, rfl⟩, .inr (.inl ⟨rfl, rfl, rfl⟩), .inr (.inr ⟨rfl, rfl⟩), rfl, short_read⟩

theorem witness_IncDecOperand : stocked.RamWf ∧ readOpnd stocked .memHl = .ok 0x99#8 ∧ readOpnd stocked (.reg .b) = .ok 0x00#8 ∧
    Instr.incMemHl.form = .inc8 .memHl ∧ Instr.decA.form = .dec8 (.reg .a) ∧
    readOpnd short .memHl = .error (.bankOutOfRange 0x4000#16 0x4000) := ⟨by decide, rfl, rfl, rfl, rfl, short_read⟩

theorem witness_DecimalAdjustAddsDecimals : (State.a { base with af := 0x9900#16 }).toNat % 16 ≤ 9 ∧
    (State.a { base with af := 0x9900#16 }).toNat / 16 ≤ 9 ∧ (0x01#8).toNat % 16 ≤ 9 ∧ (0x01#8).toNat / 16 ≤ 9 := by decide

theorem witness_AddToHl : Instr.addHlHl.form = .addHl .hl ∧ Instr.addHlSp.form = .addHl .sp := ⟨rfl, rfl⟩

theorem witness_IncDecPair : Instr.incSp.form = .incPair .sp ∧ Instr.decBc.form = .decPair .bc := ⟨rfl, rfl⟩

theorem witness_RotateAccumulator : (Instr.rra, RotOp.rr, 0x1F#8) ∈
    [(Instr.rlca, RotOp.rlc, 0x07#8), (.rla, .rl, 0x17#8), (.rrca, .rrc, 0x0F#8), (.rra, .rr, 0x1F#8)] := by decide

theorem witness_RotateOperand : stocked.RamWf ∧ Instr.cbRlcB.form = .rot .rlc (.reg .b) ∧ Instr.cbSrlMemHl.form = .rot .srl .memHl ∧
    readOpnd stocked .memHl = .ok 0x99#8 ∧ readOpnd short .memHl = .error (.bankOutOfRange 0x4000#16 0x4000) :=
  ⟨by decide, rfl, rfl, rfl, short_read⟩

theorem witness_BitTestsOperand : Instr.cbBit0B.form = .bit 0 (.reg .b) ∧ Instr.cbBit7MemHl.form = .bit 7 .memHl ∧
    readOpnd stocked .memHl = .ok 0x99#8 ∧ readOpnd short .memHl = .error (.bankOutOfRange 0x4000#16 0x4000) :=
  ⟨rfl, rfl, rfl, short_read⟩

theorem witness_ResAndSetChangeOneBit : stocked.RamWf ∧ Instr.cbRes0B.form = .res 0 (.reg .b) ∧ Instr.cbSet7MemHl.form = .set 7 .memHl ∧
    readOpnd stocked .memHl = .ok 0x99#8 ∧ readOpnd short .memHl = .error (.bankOutOfRange 0x4000#16 0x4000) :=
  ⟨by decide, rfl, rfl, rfl, short_read⟩

theorem witness_EscapeRunsSecondaryTable : (0x06#8).toNat % 8 = 6 ∧ (0x07#8).toNat % 8 ≠ 6 ∧
    ∃ v, memRead8 stocked stocked.hl = .ok v := ⟨by decide, by decide, _, rfl⟩

theorem witness_AbsoluteJumps : (Instr.jpNzA16 0xC000#16).form = .jpCond .nz 0xC000#16 ∧ condHolds base .nz ∧
    ¬ condHolds base .c ∧ (Instr.jpCA16 0xC000#16).form = .jpCond .c 0xC000#16 :=
  ⟨rfl, rfl, fun h => h rfl, rfl⟩

theorem witness_RelativeJumps : (Instr.jrNcE8 0x80#8).form = .jrCond .nc 0x80#8 ∧ condHolds base .nc ∧
    ¬ condHolds base .z ∧ (Instr.jrZE8 0x7F#8).form = .jrCond .z 0x7F#8 :=
  ⟨rfl, rfl, fun h => h rfl, rfl⟩

theorem witness_CallsPushReturnAddress : stocked.RamWf ∧ (Instr.callNzA16 0xC000#16).form = .callCond .nz 0xC000#16 ∧
    condHolds stocked .nz ∧ ¬ condHolds stocked .z ∧ (Instr.callZA16 0xC000#16).form = .callCond .z 0xC000#16 ∧
    Instr.rst00.form = .rst 0 ∧ Instr.rst38.form = .rst 7 :=
  ⟨by decide, rfl, rfl, fun h => h rfl, rfl, rfl, rfl⟩

theorem witness_ReturnsPopAddress : memRead8 stocked stocked.sp = .ok 0x34#8 ∧ memRead8 stocked (stocked.sp + 1) = .ok 0x12#8 ∧
    Instr.retNc.form = .retCond .nc ∧ condHolds stocked .nc ∧ Instr.retC.form = .retCond .c ∧ ¬ condHolds stocked .c ∧
    memRead16 splitStack splitStack.sp = .error (.bankOutOfRange 0x4000#16 0x4000) ∧ condHolds splitStack .nc :=
  ⟨rfl, rfl, rfl, rfl, rfl, fun h => h rfl, splitStack_word, rfl⟩

theorem witness_ReturnUndoesCall : State.RamWf { base with sp := 0x8002#16 } ∧ 0x8000 ≤ ((0x8002#16 : Word) - 2).toNat ∧
    0x8000 ≤ ((0x8002#16 : Word) - 1).toNat ∧ ∃ t, exec (.callA16 0xD000#16) { base with sp := 0x8002#16 } = .next t ∧
      { t with pc := 0x0000#16 }.sp = t.sp ∧ memRead16 { t with pc := 0x0000#16 } t.sp = memRead16 t t.sp :=
  ⟨by decide, by decide, by decide, _, rfl, rfl, rfl⟩

theorem witness_SystemInstructions : exec .halt base = .next { base with pc := 0xC001#16, runState := .halted } ∧
    exec (.stop 0xD3#8) base = .next { base with pc := 0xC002#16, runState := .stopped } := ⟨rfl, rfl⟩

theorem witness_HaltAndStopPauseUntilWake : (Instr.halt = .halt ∨ ∃ n, Instr.halt = .stop n) ∧
    (Instr.stop 0x00#8 = .halt ∨ ∃ n, Instr.stop 0x00#8 = .stop n) := ⟨.inl rfl, .inr ⟨_, rfl⟩⟩

end Sys2Proof.Tests
end

section
/-! What every step and every move of the environment keeps: the image, the parameters and each part of the invariant.
Said once as a relation (`KeepsInv`), with one rule per operation on the state; then the statements on scope. -/

namespace Sys2Proof.Machine

variable {s t u : State}

/-! ### The relation and its rules -/

/-- From `s` to `t` the image and the parameters are as before, and each part of the invariant that held holds. -/
structure KeepsInv (s t : State) : Prop where
  rom : t.rom = s.rom
  romSize : t.romSize = s.romSize
  params : t.params = s.params
  flagsLow : s.FlagsLow → t.FlagsLow
  bankLegal : s.BankLegal → t.BankLegal
  ramWf : s.RamWf → t.RamWf

/-- F[3:0] = 0, read off the flags byte (R24). -/
theorem flagsLow_iff : s.FlagsLow ↔ s.f.toNat % 16 = 0 := by
  unfold State.FlagsLow State.f
  rw [loByte_toNat]
  omega

/-- A word loaded into AF has F[3:0] = 0 (R22, R24). -/
theorem loByte_and_low_mod (w : Word) : (loByte (w &&& 0xFFF0#16)).toNat % 16 = 0 := by
  simp [loByte_and_low, Nat.and_mod_two_pow (n := 4)]

namespace KeepsInv

theorem refl (s : State) : KeepsInv s s := ⟨rfl, rfl, rfl, id, id, id⟩

theorem trans (h : KeepsInv s t) (k : KeepsInv t u) : KeepsInv s u :=
  ⟨k.rom.trans h.rom, k.romSize.trans h.romSize, k.params.trans h.params, k.flagsLow ∘ h.flagsLow,
    k.bankLegal ∘ h.bankLegal, k.ramWf ∘ h.ramWf⟩

theorem inv (h : KeepsInv s t) (hs : s.Inv) : t.Inv := by
  obtain ⟨hf, hb, hm, hr⟩ := hs
  refine ⟨h.flagsLow hf, h.bankLegal hb, h.ramWf hm, ?_⟩
  unfold State.RomWf
  rwa [h.rom, h.romSize]

/-- A change to registers and control state only has to keep F[3:0] at zero. -/
theorem of_sameMem (h : KeepsInv s t) (hf : t.f.toNat % 16 = 0 → u.f.toNat % 16 = 0)
    (hb : u.bankBase = t.bankBase := by simp) (hm : u.ram = t.ram := by simp) (hr : u.rom = t.rom := by simp)
    (hz : u.romSize = t.romSize := by simp) (hp : u.params = t.params := by simp) : KeepsInv s u := by
  refine h.trans ⟨hr, hz, hp, fun l => flagsLow_iff.2 (hf (flagsLow_iff.1 l)), ?_, ?_⟩
  · unfold State.BankLegal; rw [hb]; exact id
  · unfold State.RamWf; rw [hm]; exact id

theorem jump {v : Word} (h : KeepsInv s t) : KeepsInv s (t.jump v) := h.of_sameMem (by simp)

theorem advance {n : Nat} (h : KeepsInv s t) : KeepsInv s (t.advance n) := h.of_sameMem (by simp)

theorem popped (h : KeepsInv s t) : KeepsInv s t.popped := h.of_sameMem (by simp)

theorem addCycles {d : Nat} (h : KeepsInv s t) : KeepsInv s (t.addCycles d) := h.of_sameMem (by simp)

theorem withIme {b : Bool} (h : KeepsInv s t) : KeepsInv s { t with ime := b } := h.of_sameMem id

theorem withRunState {r : RunState} (h : KeepsInv s t) : KeepsInv s { t with runState := r } := h.of_sameMem id

theorem setReg8 {r : Reg8} {v : Byte} (h : KeepsInv s t) : KeepsInv s (t.setReg8 r v) := h.of_sameMem (by simp)

theorem setPair {p : Pair} {v : Word} (h : KeepsInv s t) : KeepsInv s (t.setPair p v) := h.of_sameMem (by simp)

theorem setFlags {z n hc c : Bool} (h : KeepsInv s t) : KeepsInv s (t.setFlags z n hc c) :=
  h.of_sameMem (by rw [setFlags_f_low]; exact id)

theorem putFlags {r : Flagged} (h : KeepsInv s t) : KeepsInv s (t.putFlags r) := h.setFlags

theorem accResult {r : Flagged} (h : KeepsInv s t) : KeepsInv s (accResult t r) := h.setReg8.putFlags

theorem afterIndirect {i : Indirect} (h : KeepsInv s t) : KeepsInv s (afterIndirect t i) := by
  obtain ⟨-, -, hf, -, -, -, hb, hm, hr, hz, hp⟩ := afterIndirect_spec (s := t) i
  exact h.of_sameMem (by rw [hf]; exact id) hb hm hr hz hp

/-- Loading AF drops the low nibble (R22, R24); the other pairs do not touch it. -/
theorem setStackPair {p : StackPair} {v : Word} (h : KeepsInv s t) : KeepsInv s (t.setStackPair p v) :=
  h.of_sameMem fun hf => by
    cases p with
    | af => exact loByte_and_low_mod v
    | _ => exact hf

theorem memWrite8 {a : Word} {v : Byte} (h : KeepsInv s t) : KeepsInv s (memWrite8 t a v) :=
  h.trans ⟨by simp, by simp, by simp, by simp [State.FlagsLow], fun hb => memWrite8_bankLegal hb a v,
    fun hm => memWrite8_ramWf hm a v⟩

theorem memWrite16 {a v : Word} (h : KeepsInv s t) : KeepsInv s (memWrite16 t a v) := h.memWrite8.memWrite8

theorem writeOpnd {o : Opnd8} {v : Byte} (h : KeepsInv s t) : KeepsInv s (writeOpnd t o v) := by
  cases o with
  | reg r => exact h.setReg8
  | memHl => exact h.memWrite8

theorem push16 {v : Word} (h : KeepsInv s t) : KeepsInv s (push16 t v) :=
  (h.of_sameMem (u := { t with sp := t.sp - 2 }) id).memWrite16

theorem callTo {a : Word} {len : Nat} (h : KeepsInv s t) : KeepsInv s (callTo a len t) := h.push16.jump

theorem ite {p : Prop} [Decidable p] (h : KeepsInv s t) (k : KeepsInv s u) : KeepsInv s (if p then t else u) := by
  split
  · exact h
  · exact k

/-- The rule for a meaning that changes state at once. -/
theorem of_next (k : KeepsInv s u) (h : (.next u : Result) = .next t) : KeepsInv s t := by
  cases h; exact k

/-- The rule for a meaning that reads first. -/
theorem of_withRead {α : Type} {r : Except Fault α} {k : α → State} (hk : ∀ v, KeepsInv s (k v))
    (h : withRead r k = .next t) : KeepsInv s t := by
  obtain ⟨v, -, rfl⟩ := withRead_next h
  exact hk v

end KeepsInv

/-! ### Every step: first the operations that two forms share, then the forms -/

theorem rotOpnd_keepsInv {op : RotOp} {o : Opnd8} (h : rotOpnd op o s = .next t) : KeepsInv s t :=
  .of_withRead (fun _ => (KeepsInv.refl s).writeOpnd.putFlags.advance) h

theorem bitOpnd_keepsInv {n : Fin 8} {o : Opnd8} (h : bitOpnd n o s = .next t) : KeepsInv s t :=
  .of_withRead (fun _ => (KeepsInv.refl s).setFlags.advance) h

theorem resOpnd_keepsInv {n : Fin 8} {o : Opnd8} (h : resOpnd n o s = .next t) : KeepsInv s t :=
  .of_withRead (fun _ => (KeepsInv.refl s).writeOpnd.advance) h

theorem setOpnd_keepsInv {n : Fin 8} {o : Opnd8} (h : setOpnd n o s = .next t) : KeepsInv s t :=
  .of_withRead (fun _ => (KeepsInv.refl s).writeOpnd.advance) h

theorem runEscape_keepsInv {o : Byte} (h : runEscape o s = .next t) : KeepsInv s t := by
  unfold runEscape at h
  split at h
  · exact rotOpnd_keepsInv h
  · exact bitOpnd_keepsInv h
  · exact resOpnd_keepsInv h
  · exact setOpnd_keepsInv h

theorem returnOp_keepsInv (h : returnOp s = .next t) : KeepsInv s t :=
  .of_withRead (fun _ => (KeepsInv.refl s).popped.jump) h

theorem returnCond_keepsInv {cc : Cond} (h : returnCond cc s = .next t) : KeepsInv s t := by
  unfold returnCond at h
  split at h
  · exact returnOp_keepsInv h
  · exact .of_next (KeepsInv.refl s).advance h

/-- Every operation keeps the image, the parameters and the invariant. -/
theorem runForm_keepsInv {g : Form} (h : runForm g s = .next t) : KeepsInv s t := by
  have same := KeepsInv.refl s
  cases g with
  | nop => exact .of_next same.advance h
  | ldMemSp a => exact .of_next same.memWrite16.advance h
  | stop | halt => exact .of_next same.withRunState.advance h
  | di | ei => exact .of_next same.withIme.advance h
  | jr | jp | jpHl => exact .of_next same.jump h
  | jrCond | jpCond => exact .of_next (.ite same.jump same.advance) h
  | call | rst => exact .of_next same.callTo h
  | callCond => exact .of_next (.ite same.callTo same.advance) h
  | ret => exact returnOp_keepsInv h
  | retCond => exact returnCond_keepsInv h
  | reti => exact .of_withRead (fun _ => same.popped.jump.withIme) h
  | ldPairImm | incPair | decPair | ldSpHl => exact .of_next same.setPair.advance h
  | addHl | addSp | ldHlSp => exact .of_next same.setPair.setFlags.advance h
  | push => exact .of_next same.push16.advance h
  | pop => exact .of_withRead (fun _ => same.popped.setStackPair.advance) h
  | ldIndA => exact .of_next same.memWrite8.afterIndirect.advance h
  | ldAInd => exact .of_withRead (fun _ => same.setReg8.afterIndirect.advance) h
  | ld8Imm => exact .of_next same.writeOpnd.advance h
  | ldRegReg => exact .of_next same.setReg8.advance h
  | ldRegMem | ldhAMem | ldAHighC | ldAMem => exact .of_withRead (fun _ => same.setReg8.advance) h
  | ldMemReg | ldhMemA | ldHighCA | ldMemA => exact .of_next same.memWrite8.advance h
  | inc8 | dec8 => exact .of_withRead (fun _ => same.writeOpnd.putFlags.advance) h
  | alu => exact .of_withRead (fun _ => same.accResult.advance) h
  | aluImm | daa => exact .of_next same.accResult.advance h
  | rlca | rrca | rla | rra => exact .of_next same.setReg8.putFlags.advance h
  | cpl => exact .of_next same.setReg8.setFlags.advance h
  | scf | ccf => exact .of_next same.setFlags.advance h
  | illegal => cases h
  | escapeCb => exact runEscape_keepsInv h
  | rot => exact rotOpnd_keepsInv h
  | bit => exact bitOpnd_keepsInv h
  | res => exact resOpnd_keepsInv h
  | set => exact setOpnd_keepsInv h

/-- Every step keeps the image, the parameters and the invariant. -/
theorem step_keepsInv (h : step s = .next t) : KeepsInv s t := by
  rcases step_next h with ⟨-, rfl⟩ | ⟨op, b1, b2, u, -, -, hu, rfl⟩
  · exact (KeepsInv.refl s).addCycles
  · rw [exec_eq_run] at hu
    exact (runForm_keepsInv hu).addCycles

/-- Settles O20: part of what every step keeps (`step_keepsInv`). -/
theorem noStepWritesRom : Obligations.NoStepWritesRom := by
  intro s t h
  exact ⟨(step_keepsInv h).rom, (step_keepsInv h).romSize, (step_keepsInv h).params⟩

/-! ### Reads beyond the image -/

/-- Under a legal bank every index that an address resolves to is below 32 banks of 0x4000 bytes (R52, R282). -/
theorem romIndex_lt {a : Word} {i : Nat} (hb : s.BankLegal) (h : s.romIndex a = some i) : i < 0x80000 := by
  obtain ⟨-, -, hle⟩ := hb
  unfold State.romIndex at h
  split_ifs at h <;> (have := Option.some.inj h; omega)

/-- With a full image and a legal bank no read fails (R282). -/
theorem memRead8_ne_error (hb : s.BankLegal) (hz : 0x80000 ≤ s.romSize) {a : Word} {f : Fault} :
    memRead8 s a ≠ .error f := by
  intro h
  obtain ⟨i, -, hi, hle⟩ := memRead8_error h
  exact absurd (romIndex_lt hb hi) (by omega)

/-- A step that raises `BankOutOfRange` has had a read fail (R282). -/
theorem step_bankOutOfRange {a : Word} {i : Nat} (h : step s = .fault (.bankOutOfRange a i)) :
    ∃ b, memRead8 s b = .error (.bankOutOfRange a i) := by
  obtain ⟨-, hf | ⟨op, b1, b2, -, hx⟩⟩ := step_fault h
  · exact fetch_error hf
  · rw [exec_eq_run] at hx
    exact (runForm_fault hx).resolve_left fun ⟨_, _, e⟩ => by cases e

/-- Settles O17: the fault would be a failed read, and under a legal bank a full image has every index. -/
theorem fullImageNeverOutOfRange : Obligations.FullImageNeverOutOfRange := by
  intro s hb hz a i h
  obtain ⟨b, hr⟩ := step_bankOutOfRange h
  exact memRead8_ne_error hb hz hr

/-! ### The environment and runs -/

/-- Reset forces F[3:0] to 0, selects bank 1 and lists RAM canonically, whatever the state before (R36, R310). -/
theorem resetCore_keepsInv (s : State) (init : InitRegs) (ramBytes : List Byte) :
    KeepsInv s (resetCore s init ramBytes) where
  rom := rfl
  romSize := rfl
  params := rfl
  flagsLow _ := flagsLow_iff.2 (loByte_and_low_mod init.af)
  bankLegal _ := (by decide : 0x4000 % 0x4000 = 0 ∧ 0x4000 ≤ 0x4000 ∧ 0x4000 ≤ 0x7C000)
  ramWf _ := resetCore_ramWf s init ramBytes

/-- A device's write of main memory stores what the core's own write of that byte stores (R57, R67). -/
theorem memWrite8_eq_write {a : Word} (h : 0x8000 ≤ a.toNat) (v : Byte) :
    memWrite8 s a v = { s with ram := s.ram.write a.toNat v } := by
  unfold memWrite8
  rw [if_neg (by omega)]

/-- Every move of the environment keeps the image, the parameters and the invariant. -/
theorem envMove_keepsInv {m : EnvMove} (h : s.envMove m = some t) : KeepsInv s t := by
  rcases envMove_cases h with ⟨-, -, rfl⟩ | ⟨a, v, -, ha, rfl⟩ | ⟨init, ramBytes, -, rfl⟩
  · exact (KeepsInv.refl s).withRunState
  · rw [← memWrite8_eq_write (inExtRegion_iff.1 ha).1]
    exact (KeepsInv.refl s).memWrite8
  · exact resetCore_keepsInv s init ramBytes

/-- A run ends where `END_OF_RUN` holds, and keeps what every step and every move keeps (R313). -/
theorem runUntil_keepsInv {endOfRun : State → Bool} {rounds : List (List EnvMove)}
    (h : runUntil endOfRun rounds s = some t) : endOfRun t = true ∧ KeepsInv s t :=
  runUntil_induction (P := KeepsInv s) (fun _ _ _ k hm => k.trans (envMove_keepsInv hm))
    (fun _ _ k hs => k.trans (step_keepsInv hs)) rounds s t (.refl s) h

/-- Settles O24: the invariant by `envMove_keepsInv` and `runUntil_keepsInv`, the effect of each move by
`envMove_cases`. -/
theorem environmentMovesKeepInvariant : Obligations.EnvironmentMovesKeepInvariant := by
  refine ⟨fun s t m hs h => ?_, fun endOfRun rounds s t hs h => ?_⟩
  · have keeps := envMove_keepsInv h
    refine ⟨keeps.inv hs, keeps.rom, keeps.romSize, keeps.params, ?_⟩
    rcases envMove_cases h with ⟨rfl, hr, ht⟩ | ⟨a, v, rfl, ha, rfl⟩ | ⟨init, ramBytes, rfl, ht⟩
    · exact ⟨hr, ht⟩
    · obtain ⟨hlow, range⟩ := inExtRegion_iff.1 ha
      obtain ⟨-, -, hm, -⟩ := hs
      rw [← memWrite8_eq_write hlow]
      exact ⟨hlow, range, memWrite8_storedByte hm a v, by simp [RegsAndCtlKept, RegsKept, FlagsKept, CtlKept],
        by simp, by simp⟩
    · exact ht
  · obtain ⟨hend, keeps⟩ := runUntil_keepsInv h
    exact ⟨hend, keeps.inv hs, keeps.rom, keeps.romSize, keeps.params⟩

end Sys2Proof.Machine
end

section
/-! A decoded instruction encodes to the bytes it was decoded from. So its first byte is the opcode, which ties the
forms that write `ime` or `run_state`, the conditional transfers (R322) and the escape to their opcodes; and a Running
step is `exec` of what its bytes decode to. -/

namespace Sys2Proof.Machine

variable {s : State} {op b1 b2 : Byte}

/-! ### The bytes of a decoded instruction -/

/-- A byte is its two nibbles, the row and the column of the opcode grids (R91, R94). -/
theorem exists_nibbles (op : Byte) : ∃ hi lo : Fin 16, op = opcode (16 * hi.val + lo.val) :=
  ⟨⟨op.toNat / 16, by omega⟩, ⟨op.toNat % 16, by omega⟩, BitVec.eq_of_toNat_eq (by simp [opcode]; omega)⟩

/-- Every length in the grid is 1, 2 or 3 (R83). -/
theorem instrLength_cases (op : Byte) : instrLength op = 1 ∨ instrLength op = 2 ∨ instrLength op = 3 := by
  revert op; decide

/-- A word operand stands in the bytes it was read from (R90). -/
theorem bytes_wordOf (op b1 b2 : Byte) : [op, loByte (wordOf b2 b1), hiByte (wordOf b2 b1)] = [op, b1, b2] := by
  simp

theorem encode_decodeCb (o : Byte) : encode (decodeCb o) = [0xCB#8, o] := by
  revert o; decide

theorem decodeCb_wellFormed (o : Byte) : (decodeCb o).WellFormed := by
  revert o; decide

theorem length_encode_decodeOp_zero (op : Byte) : (encode (decodeOp op 0 0)).length = instrLength op := by
  revert op; decide

/-- What `decodeOp` answers has the bytes it was given, as many as the length calls for (R80, R83, R91): by the rows and
columns of the grid, an instruction with no operand or a byte operand has them as they stand, one with a word operand
by the byte order, and the secondary table has its own lemma. -/
theorem encode_decodeOp (op b1 b2 : Byte) : encode (decodeOp op b1 b2) = [op, b1, b2].take (instrLength op) := by
  rw [← length_encode_decodeOp_zero]
  obtain ⟨hi, lo, rfl⟩ := exists_nibbles op
  fin_cases hi <;> fin_cases lo
  any_goals rfl
  any_goals exact bytes_wordOf _ b1 b2
  exact encode_decodeCb b1

theorem head?_encode_decodeOp (op b1 b2 : Byte) : (encode (decodeOp op b1 b2)).head? = some op := by
  rw [encode_decodeOp]
  rcases instrLength_cases op with h | h | h <;> rw [h] <;> rfl

/-- The opcode is the first byte of the form that was decoded. -/
theorem op_of_form {g : Form} {x : Byte} (h : (decodeOp op b1 b2).form = g) (hx : g.encode.head? = some x) :
    op = x := by
  have head := head?_encode_decodeOp op b1 b2
  rw [encode_of_form h, hx] at head
  exact (Option.some.inj head).symm

/-- No bytes decode to the escape row (R263). -/
theorem decodeOp_wellFormed (op b1 b2 : Byte) : (decodeOp op b1 b2).WellFormed := by
  generalize hi : decodeOp op b1 b2 = i
  cases i with
  | prefixCb o =>
    have hop : op = 0xCB#8 := op_of_form (congrArg Instr.form hi) rfl
    rw [← hi, hop]
    exact decodeCb_wellFormed b1
  | _ => rfl

/-- `decode` on exactly the bytes of one instruction; a byte beyond the length stands as 0. -/
theorem decode_take (op b1 b2 : Byte) : decode ([op, b1, b2].take (instrLength op)) =
    .ok (decodeOp op (if 2 ≤ instrLength op then b1 else 0) (if 3 ≤ instrLength op then b2 else 0), []) := by
  rcases instrLength_cases op with hl | hl | hl <;> simp [decode, hl]

/-! ### The duration -/

/-- The condition of a conditional transfer (R87, R322). -/
def formCond : Form → Option Cond
  | .jrCond cc _ | .jpCond cc _ | .callCond cc _ | .retCond cc => some cc
  | _ => none

/-- The opcodes and the forms name the same conditional transfers. -/
theorem takenCond_encode (i : Instr) : (encode i).head?.bind takenCond = formCond i.form := by
  cases i <;> rfl

theorem takenCond_eq_formCond (op b1 b2 : Byte) : takenCond op = formCond (decodeOp op b1 b2).form := by
  rw [← takenCond_encode, head?_encode_decodeOp, Option.bind_some]

/-- The duration named by the form is the one that the step charges by the opcode (R322). -/
theorem duration_decodeOp (s : State) (op b1 b2 : Byte) :
    duration s (decodeOp op b1 b2) op b1 = stepDuration s op b1 := by
  unfold duration stepDuration
  rw [takenCond_eq_formCond op b1 b2]
  cases (decodeOp op b1 b2).form <;> rfl

/-- The second byte matters to the duration behind 0xCB only, where the length calls for it (R322). -/
theorem duration_congr (s : State) (i : Instr) (op b1 : Byte) :
    duration s i op (if 2 ≤ instrLength op then b1 else 0) = duration s i op b1 := by
  by_cases h : op = 0xCB#8
  · subst h; rfl
  · simp [duration, h]

/-! ### A Running step -/

/-- The fetch, from the reads that the length calls for (R28); a byte beyond the length stands as 0. -/
theorem fetch_eq_of_reads (h₀ : memRead8 s s.pc = .ok op)
    (h₁ : 2 ≤ instrLength op → memRead8 s (s.pc + 1) = .ok b1)
    (h₂ : 3 ≤ instrLength op → memRead8 s (s.pc + 2) = .ok b2) :
    fetch s = .ok (op, if 2 ≤ instrLength op then b1 else 0, if 3 ≤ instrLength op then b2 else 0) := by
  rcases instrLength_cases op with hl | hl | hl
  · simp only [fetch, h₀, hl]; rfl
  · simp only [fetch, h₀, h₁ (by omega), hl]; rfl
  · simp only [fetch, h₀, h₁ (by omega), h₂ (by omega), hl]; rfl

/-- The byte at `pc`, from the form that was fetched. -/
theorem opcode_read_of_form {g : Form} {x : Byte} (hf : fetch s = .ok (op, b1, b2))
    (hg : (decodeOp op b1 b2).form = g) (hx : g.encode.head? = some x) : memRead8 s s.pc = .ok x := by
  rw [← op_of_form hg hx]
  exact fetch_ok hf

theorem step_of_fetch (hr : s.runState = .running) (hf : fetch s = .ok (op, b1, b2)) :
    step s = charge (stepDuration s op b1) (exec (decodeOp op b1 b2) s) := by
  unfold step
  rw [if_pos hr, hf]

theorem step_of_fetch_error {f : Fault} (hr : s.runState = .running) (hf : fetch s = .error f) :
    step s = .fault f := by
  unfold step
  rw [if_pos hr, hf]

/-- Settles O13: decoding and fetching cut the bytes alike (`decode_take`, `fetch_eq_of_reads`), and the two ways to
name the duration agree (`duration_decodeOp`). -/
theorem stepRunsDecoded : Obligations.StepRunsDecoded := by
  intro s op b1 b2 bytes i hr h₀ h₁ h₂ hbytes hdec
  rw [hbytes, decode_take] at hdec
  obtain ⟨rfl, -⟩ := Prod.mk.inj (Except.ok.inj hdec)
  refine ⟨decodeOp_wellFormed _ _ _, ?_, ?_⟩
  · rw [encode_decodeOp, hbytes]
    rcases instrLength_cases op with hl | hl | hl <;> simp [hl]
  · rw [step_of_fetch hr (fetch_eq_of_reads h₀ h₁ h₂), ← duration_decodeOp, duration_congr]

/-- Settles O14. -/
theorem pausedCoreOnlyCounts : Obligations.PausedCoreOnlyCounts :=
  fun _ h => step_paused h

end Sys2Proof.Machine
end

section
/-! The control state `ime`, `run_state` and `cyc`: no operation reads it to do its work, and what each leaves in it
is told by the form. Said once, as an equation between an operation from a state and from the same state with other
control (`runForm_withCtl`). -/

namespace Sys2Proof.Machine

/-! ### The control state after an operation -/

/-- `ime` after an operation that completes (R30, R240, R264, R265). -/
def imeAfter : Form → Bool → Bool
  | .ei, _ | .reti, _ => true
  | .di, _ => false
  | _, b => b

/-- `run_state` after an operation that completes (R33, R261, R262). -/
def runStateAfter : Form → RunState → RunState
  | .halt, _ => .halted
  | .stop _, _ => .stopped
  | _, r => r

theorem imeAfter_ne {g : Form} {b : Bool} (h : imeAfter g b ≠ b) :
    (imeAfter g b = true ∧ (g = .ei ∨ g = .reti)) ∨ (imeAfter g b = false ∧ g = .di) := by
  cases g with
  | ei => exact .inl ⟨rfl, .inl rfl⟩
  | reti => exact .inl ⟨rfl, .inr rfl⟩
  | di => exact .inr ⟨rfl, rfl⟩
  | _ => exact absurd rfl h

theorem runStateAfter_ne {g : Form} {r : RunState} (h : runStateAfter g r ≠ r) :
    (runStateAfter g r = .halted ∧ g = .halt) ∨ (runStateAfter g r = .stopped ∧ ∃ n, g = .stop n) := by
  cases g with
  | halt => exact .inl ⟨rfl, rfl⟩
  | stop n => exact .inr ⟨rfl, n, rfl⟩
  | _ => exact absurd rfl h

/-- The state with other control. -/
def State.withCtl (s : State) (b : Bool) (r : RunState) (c : Nat) : State :=
  { s with ime := b, runState := r, cyc := c }

/-- A result with its next state changed. -/
def mapNext (k : State → State) : Result → Result
  | .next t => .next (k t)
  | .fault f => .fault f
  | .refused e => .refused e

/-! ### Every accessor and every update under other control -/

section withCtl

variable (s : State) (b : Bool) (r : RunState) (c : Nat)

@[simp] theorem withCtl_hl : (s.withCtl b r c).hl = s.hl := rfl
@[simp] theorem withCtl_sp : (s.withCtl b r c).sp = s.sp := rfl
@[simp] theorem withCtl_a : (s.withCtl b r c).a = s.a := rfl
@[simp] theorem withCtl_flagZ : (s.withCtl b r c).flagZ = s.flagZ := rfl
@[simp] theorem withCtl_flagC : (s.withCtl b r c).flagC = s.flagC := rfl
@[simp] theorem withCtl_nextPc (n : Nat) : (s.withCtl b r c).nextPc n = s.nextPc n := rfl
@[simp] theorem withCtl_relTarget (e : Byte) : relTarget e (s.withCtl b r c) = relTarget e s := rfl
@[simp] theorem withCtl_reg8 (q : Reg8) : (s.withCtl b r c).reg8 q = s.reg8 q := rfl
@[simp] theorem withCtl_pair (p : Pair) : (s.withCtl b r c).pair p = s.pair p := rfl
@[simp] theorem withCtl_cond (cc : Cond) : (s.withCtl b r c).cond cc = s.cond cc := by cases cc <;> rfl
@[simp] theorem withCtl_pushValue (p : StackPair) : pushValue (s.withCtl b r c) p = pushValue s p := rfl
@[simp] theorem withCtl_indirectAddr (i : Indirect) : indirectAddr (s.withCtl b r c) i = indirectAddr s i := rfl
@[simp] theorem withCtl_stepDuration (op b1 : Byte) :
    stepDuration (s.withCtl b r c) op b1 = stepDuration s op b1 := rfl

@[simp] theorem withCtl_jump (v : Word) : (s.withCtl b r c).jump v = (s.jump v).withCtl b r c := rfl
@[simp] theorem withCtl_advance (n : Nat) : (s.withCtl b r c).advance n = (s.advance n).withCtl b r c := rfl
@[simp] theorem withCtl_popped : (s.withCtl b r c).popped = s.popped.withCtl b r c := rfl
@[simp] theorem withCtl_setFlags (z n h y : Bool) :
    (s.withCtl b r c).setFlags z n h y = (s.setFlags z n h y).withCtl b r c := rfl
@[simp] theorem withCtl_putFlags (x : Flagged) : (s.withCtl b r c).putFlags x = (s.putFlags x).withCtl b r c := rfl
@[simp] theorem withCtl_accResult (x : Flagged) : accResult (s.withCtl b r c) x = (accResult s x).withCtl b r c := rfl
@[simp] theorem withCtl_setReg8 (q : Reg8) (v : Byte) :
    (s.withCtl b r c).setReg8 q v = (s.setReg8 q v).withCtl b r c := by cases q <;> rfl
@[simp] theorem withCtl_setPair (p : Pair) (v : Word) :
    (s.withCtl b r c).setPair p v = (s.setPair p v).withCtl b r c := by cases p <;> rfl
@[simp] theorem withCtl_setStackPair (p : StackPair) (v : Word) :
    (s.withCtl b r c).setStackPair p v = (s.setStackPair p v).withCtl b r c := by cases p <;> rfl
@[simp] theorem withCtl_afterIndirect (i : Indirect) :
    afterIndirect (s.withCtl b r c) i = (afterIndirect s i).withCtl b r c := by cases i <;> rfl
@[simp] theorem withCtl_ite (p : Prop) [Decidable p] (t u : State) :
    (if p then t.withCtl b r c else u.withCtl b r c) = (if p then t else u).withCtl b r c := by split <;> rfl
theorem withCtl_selectBank (v : Byte) : selectBank (s.withCtl b r c) v = (selectBank s v).withCtl b r c :=
  withCtl_ite b r c _ s { s with bankBase := 0x4000 * (v.toNat % 32) }
@[simp] theorem withCtl_memWrite8 (a : Word) (v : Byte) :
    memWrite8 (s.withCtl b r c) a v = (memWrite8 s a v).withCtl b r c := by
  unfold memWrite8
  split_ifs
  · exact withCtl_selectBank s b r c v
  · rfl
  · rfl
@[simp] theorem withCtl_memWrite16 (a v : Word) :
    memWrite16 (s.withCtl b r c) a v = (memWrite16 s a v).withCtl b r c := by simp [memWrite16]
@[simp] theorem withCtl_push16 (v : Word) : push16 (s.withCtl b r c) v = (push16 s v).withCtl b r c :=
  withCtl_memWrite16 { s with sp := s.sp - 2 } b r c (s.sp - 2) v
@[simp] theorem withCtl_callTo (a : Word) (n : Nat) :
    callTo a n (s.withCtl b r c) = (callTo a n s).withCtl b r c := by simp [callTo]
@[simp] theorem withCtl_writeOpnd (o : Opnd8) (v : Byte) :
    writeOpnd (s.withCtl b r c) o v = (writeOpnd s o v).withCtl b r c := by cases o <;> simp [writeOpnd]

end withCtl

/-! ### Every operation under other control -/

/-- The rule for an operation that changes state at once. -/
theorem next_withCtl {g : Form} {t u : State} {b : Bool} {r : RunState} {c : Nat}
    (h : u = t.withCtl (imeAfter g b) (runStateAfter g r) c) :
    (.next u : Result) = mapNext (·.withCtl (imeAfter g b) (runStateAfter g r) c) (.next t) :=
  congrArg Host.Outcome.next h

/-- The rule for an operation that reads first. -/
theorem withRead_mapNext {α : Type} {q : Except Fault α} {k k' : α → State} {m : State → State}
    (h : ∀ v, k' v = m (k v)) : withRead q k' = mapNext m (withRead q k) := by
  cases q with
  | ok v => exact congrArg Host.Outcome.next (h v)
  | error f => rfl

/-- An operation from a state with other control does what it does from the state itself, and what it leaves as control
is told by the form. -/
theorem runForm_withCtl (g : Form) (s : State) (b : Bool) (r : RunState) (c : Nat) :
    runForm g (s.withCtl b r c) = mapNext (·.withCtl (imeAfter g b) (runStateAfter g r) c) (runForm g s) := by
  cases g with
  | nop | stop | halt | di | ei | jr | jp | jpHl | ldSpHl | addSp | ldHlSp | aluImm | daa | cpl | scf | ccf => rfl
  | rlca | rrca | rla | rra | illegal => rfl
  | jrCond | jpCond | callCond | call | rst | push | ldPairImm | incPair | decPair | addHl | ld8Imm | ldRegReg
  | ldIndA | ldMemReg | ldMemSp | ldhMemA | ldHighCA | ldMemA =>
    exact next_withCtl (by simp [imeAfter, runStateAfter])
  | ret | pop | ldAInd | ldRegMem | ldhAMem | ldAHighC | ldAMem | inc8 | dec8 | alu | rot | bit | res | set =>
    exact withRead_mapNext fun v => by simp [imeAfter, runStateAfter]
  | reti => exact withRead_mapNext fun v => rfl
  | retCond cc =>
    simp only [runForm, returnCond, withCtl_cond]
    split
    · exact withRead_mapNext fun v => rfl
    · exact next_withCtl rfl
  | escapeCb o =>
    simp only [runForm, runEscape]
    split <;> exact withRead_mapNext fun v => by simp [imeAfter, runStateAfter]

theorem exec_withCtl (i : Instr) (s : State) (b : Bool) (r : RunState) (c : Nat) :
    exec i (s.withCtl b r c) = mapNext (·.withCtl (imeAfter i.form b) (runStateAfter i.form r) c) (exec i s) := by
  rw [exec_eq_run, exec_eq_run, runForm_withCtl]

/-- What an instruction leaves as control: `exec_withCtl` with the control the state has. -/
theorem exec_ctl {i : Instr} {s t : State} (h : exec i s = .next t) :
    t.ime = imeAfter i.form s.ime ∧ t.runState = runStateAfter i.form s.runState ∧ t.cyc = s.cyc := by
  have same : exec i s = _ := exec_withCtl i s s.ime s.runState s.cyc
  rw [h] at same
  have ht : t = t.withCtl (imeAfter i.form s.ime) (runStateAfter i.form s.runState) s.cyc := Host.Outcome.next.inj same
  have hcyc := congrArg State.cyc ht
  exact ⟨congrArg State.ime ht, congrArg State.runState ht, hcyc⟩

/-! ### Every step -/

/-- Settles O21: `ime` after a step is told by the form, and the form by its opcode. -/
theorem onlyEiDiRetiWriteIme : Obligations.OnlyEiDiRetiWriteIme := by
  intro s t h hne
  rcases step_next h with ⟨-, rfl⟩ | ⟨op, b1, b2, u, -, hf, hu, rfl⟩
  · exact absurd rfl hne
  · obtain ⟨hime, -, -⟩ := exec_ctl hu
    rw [addCycles_ime, hime] at hne ⊢
    rcases imeAfter_ne hne with ⟨hv, hg | hg⟩ | ⟨hv, hg⟩
    · exact .inl ⟨hv, .inl (opcode_read_of_form hf hg rfl)⟩
    · exact .inl ⟨hv, .inr (opcode_read_of_form hf hg rfl)⟩
    · exact .inr ⟨hv, opcode_read_of_form hf hg rfl⟩

/-- Settles O22: `run_state` after a step is told by the form, and the form by its opcode. -/
theorem onlyHaltAndStopPause : Obligations.OnlyHaltAndStopPause := by
  intro s t h hne
  rcases step_next h with ⟨-, rfl⟩ | ⟨op, b1, b2, u, hr, hf, hu, rfl⟩
  · exact absurd rfl hne
  · obtain ⟨-, hrun, -⟩ := exec_ctl hu
    rw [addCycles_runState, hrun] at hne ⊢
    refine ⟨hr, ?_⟩
    rcases runStateAfter_ne hne with ⟨hv, hg⟩ | ⟨hv, n, hg⟩
    · exact .inl ⟨hv, opcode_read_of_form hf hg rfl⟩
    · exact .inr ⟨hv, opcode_read_of_form hf hg rfl⟩

/-- A Running step with other `ime` and `cyc`, once its bytes are fetched. -/
theorem step_withCtl_of_fetch {s : State} {op b1 b2 : Byte} (hr : s.runState = .running)
    (hf : fetch s = .ok (op, b1, b2)) (b : Bool) (c : Nat) : step (s.withCtl b s.runState c) =
      charge (stepDuration s op b1) (mapNext (·.withCtl (imeAfter (decodeOp op b1 b2).form b)
        (runStateAfter (decodeOp op b1 b2).form s.runState) c) (exec (decodeOp op b1 b2) s)) := by
  rw [step_of_fetch (s := s.withCtl b s.runState c) hr hf, exec_withCtl, withCtl_stepDuration]

/-- Settles O23: the fetch does not read the two, and the instruction leaves the same state but for them
(`exec_withCtl`). -/
theorem imeAndCycNeverSteerStep : Obligations.ImeAndCycNeverSteerStep := by
  intro s b c
  have other : { s with ime := b, cyc := c } = s.withCtl b s.runState c := rfl
  rw [other]
  cases hs : step s with
  | next t =>
    rcases step_next hs with ⟨hp, rfl⟩ | ⟨op, b1, b2, u, hr, hf, hu, rfl⟩
    · exact ⟨b, s.params.durIdle, rfl, step_paused hp⟩
    · obtain ⟨-, hrun, hcyc⟩ := exec_ctl hu
      refine ⟨imeAfter (decodeOp op b1 b2).form b, stepDuration s op b1, by rw [addCycles_cyc, hcyc], ?_⟩
      rw [step_withCtl_of_fetch hr hf, hu, ← hrun]
      rfl
  | fault f =>
    show step (s.withCtl b s.runState c) = .fault f
    obtain ⟨hr, hf | ⟨op, b1, b2, hf, hx⟩⟩ := step_fault hs
    · exact step_of_fetch_error hr hf
    · rw [step_withCtl_of_fetch hr hf, hx]
      rfl
  | refused e => exact absurd hs step_not_refused

end Sys2Proof.Machine
end

section
/-! The invariant at reset and along steps, and the laws of the register accessors. -/

namespace Sys2Proof.Machine

variable {s : State}

/-- Settles O18: the invariant is part of what every step keeps (`step_keepsInv`). -/
theorem stepKeepsInvariant : Obligations.StepKeepsInvariant :=
  fun _ _ hs h => (step_keepsInv h).inv hs

/-- Reset needs a well-formed image only: everything else of the invariant it sets up itself (R36, R310). -/
theorem resetCore_inv (hs : s.RomWf) (init : InitRegs) (ramBytes : List Byte) : (resetCore s init ramBytes).Inv :=
  ⟨flagsLow_iff.2 (loByte_and_low_mod init.af),
    (by decide : 0x4000 % 0x4000 = 0 ∧ 0x4000 ≤ 0x4000 ∧ 0x4000 ≤ 0x7C000), resetCore_ramWf s init ramBytes, hs⟩

/-- RAM after reset is `INIT_RAM` (R36, R310). -/
theorem memRead8_resetCore (s : State) (init : InitRegs) (ramBytes : List Byte) {k : Nat} (hk : k < 0x8000) :
    memRead8 (resetCore s init ramBytes) (BitVec.ofNat 16 (0x8000 + k)) = .ok (ramBytes.getD k Memory.unlisted) := by
  have ha : (BitVec.ofNat 16 (0x8000 + k)).toNat = 0x8000 + k := by rw [BitVec.toNat_ofNat]; omega
  have hram : (resetCore s init ramBytes).ram = Memory.ofBytes 0x8000 (ramBytes.take 0x8000) := rfl
  rw [memRead8_ram _ (by omega), ha, hram, Memory.read_ofBytes, List.getD_eq_getElem?_getD,
    List.getElem?_take_of_lt hk, List.getD_eq_getElem?_getD]

/-- Settles O19: `State.reset` is the reset of a machine without an image, so the one lemma gives both invariants. -/
theorem resetMeetsInvariant : Obligations.ResetMeetsInvariant := by
  refine ⟨fun s init ramBytes hs => ?_, resetCore_inv (s := .reset) reset_romWf defaultInitRegs []⟩
  exact ⟨resetCore_inv hs init ramBytes, rfl, rfl, rfl, rfl, rfl, rfl, rfl, rfl, rfl, rfl, rfl,
    hiByte_and_low init.af, loByte_and_low init.af, rfl, fun k hk => memRead8_resetCore s init ramBytes hk⟩

/-- Settles O4: clause by clause the accessor laws; a pair is its two halves by `wordOf_hiByte_loByte`. -/
theorem registerAccessorsObeyLaws : Obligations.RegisterAccessorsObeyLaws := by
  refine ⟨fun s r v => ⟨by simp, fun q hq => ?_, setReg8_f s r v, setReg8_sp s r v, setReg8_pc s r v⟩,
    setPair_pair, fun s p v hp => setStackPair_stackPair s hp v,
    fun s v => ⟨setStackPair_af_af s v, hiByte_and_low v, loByte_and_low v⟩, jump_pc, fun s => ?_⟩
  · rw [setReg8_reg8, if_neg (by simpa using hq)]
  · exact ⟨(wordOf_hiByte_loByte s.bc).symm, (wordOf_hiByte_loByte s.de).symm, (wordOf_hiByte_loByte s.hl).symm,
      (wordOf_hiByte_loByte s.af).symm⟩

/-- Settles O5: the flags byte holds the four flags above the old low nibble (`flagsByte_toNat`). -/
theorem flagWritesKeepLowNibble : Obligations.FlagWritesKeepLowNibble := by
  intro s z n h c
  refine ⟨setFlags_flagsAre s z n h c, fun r _ => setFlags_reg8 s z n h c r, setFlags_sp s z n h c,
    setFlags_pc s z n h c, ?_⟩
  rw [setFlags_f, flagsByte_toNat]

end Sys2Proof.Machine
end

section
/-! What the memory unit shows of an image and of a write, and what a failed data read does to an instruction. -/

namespace Sys2Proof.Machine

variable {s : State}

/-! ### The image through the decoder -/

/-- A state that holds `image` with bank `n` in the window shows the image below 0x8000 (R52, R54, R56). -/
theorem memRead8_eq_imageShows {image : List Byte} {n : Nat} {a : Word} (hrom : s.rom = Memory.ofBytes 0 image)
    (hsize : s.romSize = image.length) (hbank : s.bankBase = 0x4000 * n) (ha : a.toNat < 0x8000) :
    memRead8 s a = imageShows image n a := by
  have hindex : s.romIndex a = some (if a.toNat < 0x4000 then a.toNat else 0x4000 * n + (a.toNat - 0x4000)) := by
    rw [State.romIndex, if_pos ha, hbank]
    split_ifs <;> rfl
  have hread (i : Nat) : s.rom.read i = image.getD i Memory.unlisted := by
    simpa [hrom] using Memory.read_ofBytes 0 image i
  simp only [memRead8, hindex, imageShows, hread, hsize]
  generalize (if a.toNat < 0x4000 then a.toNat else 0x4000 * n + (a.toNat - 0x4000)) = i
  by_cases hi : i < image.length <;> simp [hi]

/-- Settles O1: `load_rom` puts bank 1 in the window, and `select_bank` changes only which bank is there. -/
theorem loadedImageReadsThroughDecoder : Obligations.LoadedImageReadsThroughDecoder := by
  intro s image a ha
  refine ⟨memRead8_eq_imageShows rfl rfl rfl ha, fun v => ?_⟩
  refine memRead8_eq_imageShows (selectBank_rom _ v) (selectBank_romSize _ v) ?_ ha
  rw [selectBank_eq]
  split_ifs <;> rfl

/-! ### Writes -/

/-- A word in RAM reads back: its high byte does not wrap to 0x0000 (R55, R63). -/
theorem memRead16_memWrite16 (hs : s.RamWf) {a : Word} (hlo : 0x8000 ≤ a.toNat) (hhi : a.toNat ≤ 0xFFFE) (v : Word) :
    memRead16 (memWrite16 s a v) a = .ok v := by
  obtain ⟨-, -, -, -, readLo, readHi, -⟩ := memWrite16_storedWord hs a v
  have next : (a + 1).toNat = a.toNat + 1 := BitVec.toNat_add_of_lt (by simpa using by omega)
  rw [memRead16_ok (readLo hlo) (readHi (by omega)), wordOf_hiByte_loByte]

theorem memWrite8_regsAndCtlKept (s : State) (a : Word) (v : Byte) : RegsAndCtlKept s (memWrite8 s a v) := by
  simp [RegsAndCtlKept, RegsKept, FlagsKept, CtlKept]

theorem memWrite16_regsAndCtlKept (s : State) (a v : Word) : RegsAndCtlKept s (memWrite16 s a v) := by
  simp [RegsAndCtlKept, RegsKept, FlagsKept, CtlKept]

/-- Settles O2: what is stored by `memWrite8_storedByte` and `memWrite16_storedWord`, the word back by
`memRead16_memWrite16`; no register is written. -/
theorem writesReadBack : Obligations.WritesReadBack := by
  intro s a hs
  constructor
  · intro v
    exact ⟨memWrite8_storedByte hs a v, memWrite8_regsAndCtlKept s a v, memWrite8_sp s a v, memWrite8_pc s a v⟩
  · intro v
    exact ⟨memWrite16_storedWord hs a v, memWrite16_regsAndCtlKept s a v, memWrite16_sp s a v, memWrite16_pc s a v,
      fun hlo hhi => memRead16_memWrite16 hs hlo hhi v⟩

/-- A write below 0x8000 moves the bank and nothing else (R57, R60, R61). -/
theorem memWrite8_below {a : Word} (ha : a.toNat < 0x8000) (v : Byte) :
    memWrite8 s a v = { s with bankBase := bankAfter s.bankBase a v } := by
  unfold memWrite8 bankAfter selectBank
  split_ifs <;> first | rfl | omega

/-- Settles O3: a write below 0x8000 moves at most the bank (`memWrite8_below`), and the window is read through it. -/
theorem bankWindowShowsSelectedBank : Obligations.BankWindowShowsSelectedBank := by
  intro s a v ha
  rw [memWrite8_below ha]
  split_ifs with hsel
  · rw [bankAfter, if_pos hsel]
    exact ⟨rfl, fun x hx₁ hx₂ => memRead8_window _ hx₁ hx₂⟩
  · rw [bankAfter, if_neg hsel]

/-! ### Failed data reads -/

theorem withRead_error {α : Type} {r : Except Fault α} {f : Fault} (h : r = .error f) (k : α → State) :
    withRead r k = .fault f := by rw [h]; rfl

/-- A word read whose low-address byte fails (R58). -/
theorem memRead16_error_low {a : Word} {f : Fault} (h : memRead8 s a = .error f) : memRead16 s a = .error f := by
  simp only [memRead16, h]

/-- A word read whose second byte alone fails (R58). -/
theorem memRead16_error_high {a : Word} {v : Byte} {f : Fault} (hlo : memRead8 s a = .ok v)
    (hhi : memRead8 s (a + 1) = .error f) : memRead16 s a = .error f := by
  simp only [memRead16, hlo, hhi]

theorem flagZ_eq_false_iff : s.flagZ = false ↔ s.f &&& 0x80#8 = 0#8 := by
  rw [State.flagZ, ← getLsbD_loByte s.af (by omega), State.f]
  generalize loByte s.af = f
  revert f; decide

theorem flagC_eq_false_iff : s.flagC = false ↔ s.f &&& 0x10#8 = 0#8 := by
  rw [State.flagC, ← getLsbD_loByte s.af (by omega), State.f]
  generalize loByte s.af = f
  revert f; decide

/-- The conditions that the meanings test are those of R87 on F. -/
theorem cond_eq_true_iff {cc : Cond} : s.cond cc = true ↔ condHolds s cc := by
  cases cc <;> simp [State.cond, condHolds, ← flagZ_eq_false_iff, ← flagC_eq_false_iff]

/-- An instruction that reads data begins with that read: of a byte or of a word, and all else it does follows (R68). -/
theorem runForm_of_reads {g : Form} {a : Word} {n : Nat} (h : Reads s g a n) :
    (n = 1 ∧ ∃ k, runForm g s = withRead (memRead8 s a) k) ∨
      (n = 2 ∧ ∃ k, runForm g s = withRead (memRead16 s a) k) := by
  cases h with
  | pop | ret | reti => exact .inr ⟨rfl, _, rfl⟩
  | retCond cc taken => exact .inr ⟨rfl, _, if_pos (cond_eq_true_iff.2 taken)⟩
  | _ => exact .inl ⟨rfl, _, rfl⟩

/-- Settles O25: the instruction begins with its read (`runForm_of_reads`), so it ends where the read fails. -/
theorem dataReadsFault : Obligations.DataReadsFault := by
  intro i s a n f h
  rw [exec_eq_run]
  rcases runForm_of_reads h with ⟨rfl, k, hk⟩ | ⟨rfl, k, hk⟩ <;> rw [hk]
  · exact ⟨fun hf => withRead_error hf k, fun two => absurd two (by decide)⟩
  · exact ⟨fun hf => withRead_error (memRead16_error_low hf) k,
      fun _ v hlo hhi => withRead_error (memRead16_error_high hlo hhi) k⟩

end Sys2Proof.Machine
end

section
/-! The decoder against the encoder (R80 to R94): decoding is the inverse of encoding, in both directions, and fails on
missing bytes only; the regular parts of the two grids by the fields of the opcode; and the illegal bytes. -/

namespace Sys2Proof.Machine

variable {s : State} {op b1 b2 : Byte}

/-! ### Decoding inverts encoding -/

/-- The decoder puts a word operand together from the two bytes that the encoder makes of it (R90). -/
theorem decodeOp_wordOperand {mk : Word → Instr} (hop : ∀ b1 b2, decodeOp op b1 b2 = mk (wordOf b2 b1)) (n : Word) :
    decodeOp op (loByte n) (hiByte n) = mk n := by
  rw [hop, wordOf_hiByte_loByte]

/-- The opcode of a row selects that row, with the operand that stands in the bytes after it (R89 to R91, R94). -/
theorem exists_encode_eq_cons {i : Instr} (hi : i.WellFormed) : ∃ op tail, encode i = op :: tail ∧
    decodeOp op (tail.getD 0 0) (tail.getD 1 0) = i := by
  cases i with
  | prefixCb o => cases hi
  | ldBcD16 n | ldDeD16 n | ldHlD16 n | ldSpD16 n | ldMemA16Sp n | ldMemA16A n | ldAMemA16 n | jpA16 n | jpNzA16 n
  | jpZA16 n | jpNcA16 n | jpCA16 n | callA16 n | callNzA16 n | callZA16 n | callNcA16 n | callCA16 n =>
    exact ⟨_, _, rfl, decodeOp_wordOperand (fun _ _ => rfl) n⟩
  | _ => exact ⟨_, _, rfl, rfl⟩

theorem length_encode_decodeOp (op b1 b2 : Byte) : (encode (decodeOp op b1 b2)).length = instrLength op := by
  rw [encode_decodeOp]
  rcases instrLength_cases op with hl | hl | hl <;> rw [hl] <;> rfl

/-- The decoder takes as many bytes as the length calls for and leaves the rest (R80, R83). -/
theorem decode_cons_append {tail : List Byte} (h : (op :: tail).length = instrLength op) (rest : List Byte) :
    decode (op :: tail ++ rest) = .ok (decodeOp op (tail.getD 0 0) (tail.getD 1 0), rest) := by
  match tail with
  | [] | [_] | [_, _] => simp [decode, ← h]
  | _ :: _ :: _ :: _ => rcases instrLength_cases op with hl | hl | hl <;> simp [hl] at h

/-- Settles O6: the decoder cuts the bytes where the encoding ends (`decode_cons_append`), and the opcode of a row
selects that row (`exists_encode_eq_cons`). -/
theorem decodeOfEncode : Obligations.DecodeOfEncode := by
  intro i rest hi
  obtain ⟨op, tail, hbytes, hop⟩ := exists_encode_eq_cons hi
  have hlen := length_encode_decodeOp op (tail.getD 0 0) (tail.getD 1 0)
  rw [hop, hbytes] at hlen
  rw [hbytes, decode_cons_append hlen, hop]

/-- What decodes is what `decodeOp` makes of the first bytes, as many as the length calls for (R80, R81). -/
theorem decode_ok {bytes rest : List Byte} {i : Instr} (h : decode bytes = .ok (i, rest)) :
    ∃ op b1 b2, i = decodeOp op b1 b2 ∧ bytes = [op, b1, b2].take (instrLength op) ++ rest := by
  unfold decode at h
  split at h
  · cases h
  · next op tail =>
    split at h
    · next hl => cases h; exact ⟨op, 0, 0, rfl, by simp [hl]⟩
    · next b1 _ hl => cases h; exact ⟨op, b1, 0, rfl, by simp [hl]⟩
    · next b1 b2 _ hl => cases h; exact ⟨op, b1, b2, rfl, by simp [hl]⟩
    · cases h

/-- Settles O7: what decodes is a `decodeOp` (`decode_ok`), which is well-formed and has the bytes it was made from. -/
theorem encodeOfDecode : Obligations.EncodeOfDecode := by
  intro bytes i rest h
  obtain ⟨op, b1, b2, rfl, rfl⟩ := decode_ok h
  exact ⟨decodeOp_wellFormed op b1 b2, by rw [encode_decodeOp]⟩

/-- Settles O11: by the three lengths, and for each by the bytes that follow the first. -/
theorem onlyMissingBytesStopDecoding : Obligations.OnlyMissingBytesStopDecoding := by
  intro bytes
  cases bytes with
  | nil => simp [decode]
  | cons op tail =>
    rcases instrLength_cases op with hl | hl | hl
    · simp [decode, hl]
    · cases tail <;> simp [decode, hl]
    · match tail with
      | [] | [_] | _ :: _ :: _ => simp [decode, hl]

/-! ### The grids by fields -/

/-- Settles O8: behind 0xCB the second byte alone selects, and there are 256 of them. -/
theorem secondaryTableFollowsFields : Obligations.SecondaryTableFollowsFields := by
  intro o b2
  show (decodeCb o).form = cbFieldForm o
  revert o; decide

/-- An opcode is its three fields `x`, `y`, `z` (R91). -/
theorem eq_opcode_of_fields (op : Byte) :
    op = opcode (64 * (op.toNat / 64) + 8 * (op.toNat / 8 % 8) + op.toNat % 8) :=
  BitVec.eq_of_toNat_eq (by simp [opcode]; omega)

/-- Settles O9: with `x` given, `y` and `z` are each below 8 and make up the opcode (`eq_opcode_of_fields`); in each
block the row of every pair of fields is read off. -/
theorem regularBlocksFollowFields : Obligations.RegularBlocksFollowFields := by
  intro op b1 b2 y z
  have hy : y < 8 := Nat.mod_lt _ (by decide)
  have hz : z < 8 := Nat.mod_lt _ (by decide)
  have hop : op = opcode (64 * (op.toNat / 64) + 8 * y + z) := eq_opcode_of_fields op
  clear_value y z
  generalize op.toNat / 64 = x at hop ⊢
  subst hop
  refine ⟨?_, ?_, ?_, ?_, ?_, ?_⟩
  · rintro rfl
    interval_cases y <;> interval_cases z <;> rfl
  · rintro alu rfl rfl
    cases alu <;> interval_cases z <;> rfl
  · rintro alu rfl rfl rfl
    cases alu <;> rfl
  all_goals
    rintro rfl rfl
    interval_cases y <;> rfl

/-! ### The illegal bytes -/

/-- Each of the eleven bytes has a row that answers it (R92). -/
theorem form_decodeOp_illegal (h : op ∈ illegalBytes) (b1 b2 : Byte) : (decodeOp op b1 b2).form = .illegal op := by
  fin_cases h <;> rfl

/-- The illegal rows are those of the eleven bytes (R92). -/
theorem mem_illegalBytes_of_form {i : Instr} {o : Byte} (h : i.form = .illegal o) : o ∈ illegalBytes := by
  cases i with
  | illegalD3 | illegalDB | illegalDD | illegalE3 | illegalE4 | illegalEB | illegalEC | illegalED | illegalF4
  | illegalFC | illegalFD => cases h; decide
  | _ => cases h

/-- An instruction raises `IllegalOpcode` by its form only: a failed read is another fault (R281, R282). -/
theorem form_of_illegalOpcode {i : Instr} {a : Word} {o : Byte} (h : exec i s = .fault (.illegalOpcode a o)) :
    i.form = .illegal o := by
  rw [exec_eq_run] at h
  rcases runForm_fault h with ⟨o', hg, hf⟩ | ⟨x, hr⟩
  · cases hf; exact hg
  · obtain ⟨k, hf, -⟩ := memRead8_error hr
    cases hf

/-- Settles O12: an illegal byte's row faults by its form (`form_decodeOp_illegal`), and a row that so faults has the
form of an illegal byte, which is the opcode it was decoded from (`op_of_form`). -/
theorem illegalBytesFault : Obligations.IllegalBytesFault := by
  constructor
  · intro op b1 b2 h s
    exact exec_of_form (form_decodeOp_illegal h b1 b2) s
  · intro op b1 b2 s a o h
    have hg := form_of_illegalOpcode h
    rw [op_of_form hg rfl]
    exact mem_illegalBytes_of_form hg

end Sys2Proof.Machine
end

section
/-! The 8-bit loads (R110 to R129), each from the rule of its shared operation and the bytes of its form; and which
instructions can fail at all. -/

namespace Sys2Proof.Machine

variable {s : State}

/-! ### Every fault is an illegal opcode or a failed read -/

/-- Only the ill-formed row is the escape (R263). -/
theorem form_ne_escapeCb {i : Instr} (hi : i.WellFormed) (o : Byte) : i.form ≠ .escapeCb o := by
  intro h
  cases i with
  | prefixCb _ => cases hi
  | _ => cases h

/-- The loads of A from an indirect operand read at its address (R86). -/
theorem reads_ldAInd (s : State) (ind : Indirect) : Reads s (.ldAInd ind) (indirectAddr s ind) 1 := by
  cases ind with
  | bc => exact .loadBc
  | de => exact .loadDe
  | hlInc => exact .loadHlInc
  | hlDec => exact .loadHlDec

/-- An operation that is neither illegal nor the escape reads data, or completes whatever the state. -/
theorem exists_reads_or_runForm_next {g : Form} (hillegal : ∀ o, g ≠ .illegal o) (hescape : ∀ o, g ≠ .escapeCb o)
    (s : State) : (∃ a n, Reads s g a n) ∨ ∃ t, runForm g s = .next t := by
  cases g with
  | illegal o => exact absurd rfl (hillegal o)
  | escapeCb o => exact absurd rfl (hescape o)
  | ldRegMem dst => exact .inl ⟨_, _, .loadHl dst⟩
  | ldAInd ind => exact .inl ⟨_, _, reads_ldAInd s ind⟩
  | ldAMem a => exact .inl ⟨_, _, .loadMem a⟩
  | ldhAMem n => exact .inl ⟨_, _, .loadHigh n⟩
  | ldAHighC => exact .inl ⟨_, _, .loadHighC⟩
  | alu _ o | inc8 o | dec8 o | rot _ o | bit _ o | res _ o | set _ o =>
    cases o with
    | reg r => exact .inr ⟨_, rfl⟩
    | memHl => exact .inl ⟨_, _, by constructor⟩
  | pop p => exact .inl ⟨_, _, .pop p⟩
  | ret => exact .inl ⟨_, _, .ret⟩
  | reti => exact .inl ⟨_, _, .reti⟩
  | retCond cc =>
    by_cases taken : condHolds s cc
    · exact .inl ⟨_, _, .retCond cc taken⟩
    · exact .inr ⟨_, if_neg (mt cond_eq_true_iff.1 taken)⟩
  | _ => exact .inr ⟨_, rfl⟩

/-- An instruction whose data reads succeed completes: all it does follows the read (R68, R283). -/
theorem runForm_next_of_reads {g : Form} {a : Word} {n : Nat} (h : Reads s g a n)
    (hlo : ∃ v, memRead8 s a = .ok v) (hhi : n = 2 → ∃ v, memRead8 s (a + 1) = .ok v) :
    ∃ t, runForm g s = .next t := by
  obtain ⟨lo, hlo⟩ := hlo
  rcases runForm_of_reads h with ⟨-, k, hk⟩ | ⟨two, k, hk⟩
  · exact ⟨k lo, by rw [hk, hlo]; rfl⟩
  · obtain ⟨hi, hhi⟩ := hhi two
    exact ⟨k (wordOf hi lo), by rw [hk, memRead16_ok hlo hhi]; rfl⟩

/-- Settles O26: an instruction that reads completes by its reads (`runForm_next_of_reads`), any other by itself. -/
theorem noOtherFault : Obligations.NoOtherFault := by
  intro i s hi hillegal hreads
  rw [exec_eq_run]
  rcases exists_reads_or_runForm_next hillegal (form_ne_escapeCb hi) s with ⟨a, n, h⟩ | next
  · obtain ⟨hlo, hhi⟩ := hreads a n h
    exact runForm_next_of_reads h hlo hhi
  · exact next

/-! ### From an operation to its rows -/

/-- What an operation does, each row of its form does, and has the bytes of the form. -/
theorem completes_of_form {i : Instr} {g : Form} {bytes : List Byte} {P : State → Prop} (h : i.form = g)
    (hx : ∃ t, runForm g s = .next t ∧ P t) (hb : g.encode = bytes := by rfl) : Completes i bytes s P := by
  rw [Completes, encode_of_form h, exec_of_form h]
  exact ⟨hb, hx⟩

/-- A row that reads one byte has the fault of that read (R282). -/
theorem readFaults_of_reads {i : Instr} {g : Form} {a : Word} (h : i.form = g) (hr : Reads s g a 1) :
    ReadFaults i s (memRead8 s a) :=
  fun f hf => (dataReadsFault i s a 1 f (h ▸ hr)).1 hf

/-- A high-page address is in RAM (R89). -/
theorem highPage_toNat_ge (n : Byte) : 0x8000 ≤ (0xFF00#16 + n.setWidth 16).toNat := by
  revert n; decide

theorem exists_memRead8_highPage (s : State) (n : Byte) : ∃ v, memRead8 s (0xFF00#16 + n.setWidth 16) = .ok v :=
  ⟨_, memRead8_ram s (highPage_toNat_ge n)⟩

/-- The loads of A by a row of `ldAInd` that does not move HL (R116, R117). -/
theorem loadsA_of_loadAInd (ind : Indirect) {i : Instr} {bytes : List Byte} (h : i.form = .ldAInd ind)
    (hstay : movedRegs ind = []) (hb : (Form.ldAInd ind).encode = bytes := by rfl) :
    LoadsA i bytes (indirectAddr s ind) s := by
  refine ⟨fun v hv => completes_of_form h ?_ hb, readFaults_of_reads h (reads_ldAInd s ind)⟩
  obtain ⟨t, ht, ha, -, frame, flags⟩ := loadAInd_spec hv
  rw [hstay] at frame
  subst hb
  exact ⟨t, ht, ha, frame, flags⟩

/-- The loads of A by a row that is `loadAAddr` (R120, R121, R123). -/
theorem loadsA_of_loadAAddr {i : Instr} {g : Form} {bytes : List Byte} {a : Word} (h : i.form = g)
    (hrun : runForm g s = loadAAddr a bytes.length s) (hr : Reads s g a 1)
    (hb : g.encode = bytes := by rfl) : LoadsA i bytes a s :=
  ⟨fun _ hv => completes_of_form h (by rw [hrun]; exact loadAAddr_spec hv _) hb, readFaults_of_reads h hr⟩

/-- The stores of A by a row of `ldIndA` that does not move HL (R118, R119). -/
theorem storesA_of_loadIndA (hs : s.RamWf) (ind : Indirect) {i : Instr} {bytes : List Byte}
    (h : i.form = .ldIndA ind) (hstay : movedRegs ind = [])
    (hb : (Form.ldIndA ind).encode = bytes := by rfl) : StoresA i bytes (indirectAddr s ind) s := by
  obtain ⟨t, ht, stored, -, frame, flags⟩ := loadIndA_spec hs ind
  rw [hstay] at frame
  subst hb
  exact completes_of_form h ⟨t, ht, stored, frame, flags⟩

/-- The stores of A by a row that is `loadAddrA` (R122, R124, R125). -/
theorem storesA_of_loadAddrA {i : Instr} {g : Form} {bytes : List Byte} {a : Word} (hs : s.RamWf) (h : i.form = g)
    (hrun : runForm g s = loadAddrA a bytes.length s) (hb : g.encode = bytes := by rfl) : StoresA i bytes a s :=
  completes_of_form h (by rw [hrun]; exact loadAddrA_spec hs a _) hb

/-! ### The statements -/

/-- Settles O27, by the rule of `loadRegReg`. -/
theorem loadRegisterFromRegister : Obligations.LoadRegisterFromRegister :=
  fun _ dst src _ h => completes_of_form h (loadRegReg_spec dst src)

/-- Settles O28, by the rule of `loadRegMem`, whose address is HL of the state before. -/
theorem loadRegisterFromHl : Obligations.LoadRegisterFromHl :=
  fun _ dst _ h => ⟨fun _ hv => completes_of_form h (loadRegMem_spec hv), readFaults_of_reads h (.loadHl dst)⟩

/-- Settles O29, by the rules of `loadMemReg` and, for the immediate, of `loadImm` to `(HL)`. -/
theorem storeToHl : Obligations.StoreToHl := by
  intro i s hs
  refine ⟨fun src h => completes_of_form h (loadMemReg_spec hs src), fun n h => completes_of_form h ?_⟩
  obtain ⟨t, ht, ⟨stored, frame⟩, flags⟩ := loadImm_spec hs .memHl n
  exact ⟨t, ht, stored, frame, flags⟩

/-- Settles O30. Nothing is asked of RAM, since a register is written (`setReg8_advance_spec`). -/
theorem loadRegisterImmediate : Obligations.LoadRegisterImmediate :=
  fun _ dst n _ h => completes_of_form h ⟨_, rfl, setReg8_advance_spec dst n 2⟩

/-- Settles O31: two rows are `loadAInd` and three `loadAAddr`, of which the high-page ones read RAM. -/
theorem loadAFromMemory : Obligations.LoadAFromMemory := by
  intro s
  exact ⟨loadsA_of_loadAInd .bc rfl rfl, loadsA_of_loadAInd .de rfl rfl,
    fun a => loadsA_of_loadAAddr rfl rfl (.loadMem a),
    fun n => ⟨loadsA_of_loadAAddr rfl rfl (.loadHigh n), exists_memRead8_highPage s n⟩,
    loadsA_of_loadAAddr rfl rfl .loadHighC, exists_memRead8_highPage s (s.reg8 .c)⟩

/-- Settles O32: two rows are `loadIndA` and three `loadAddrA`. -/
theorem storeAToMemory : Obligations.StoreAToMemory := by
  intro s hs
  exact ⟨storesA_of_loadIndA hs .bc rfl rfl, storesA_of_loadIndA hs .de rfl rfl,
    fun _ => storesA_of_loadAddrA hs rfl rfl, storesA_of_loadAddrA hs rfl rfl, fun _ => storesA_of_loadAddrA hs rfl rfl⟩

/-- Settles O33, by the rules of `loadIndA` and `loadAInd`, where `hlAfter` says how HL moves. -/
theorem loadStoreAndMoveHl : Obligations.LoadStoreAndMoveHl := by
  intro s
  refine ⟨fun hs => ⟨?_, ?_⟩, fun v hv => ⟨?_, ?_⟩, ?_, ?_⟩
  · exact completes_of_form rfl (loadIndA_spec hs .hlInc)
  · exact completes_of_form rfl (loadIndA_spec hs .hlDec)
  · exact completes_of_form rfl (loadAInd_spec (i := .hlInc) hv)
  · exact completes_of_form rfl (loadAInd_spec (i := .hlDec) hv)
  · exact readFaults_of_reads rfl .loadHlInc
  · exact readFaults_of_reads rfl .loadHlDec

/-- Settles O10: the decoder runs on each list. -/
theorem specWordsDecode : Obligations.SpecWordsDecode :=
  ⟨rfl, rfl, rfl, rfl, rfl, rfl, rfl, rfl, rfl, rfl, rfl, rfl, rfl, rfl, rfl, rfl⟩

end Sys2Proof.Machine
end

section
/-! The 16-bit loads, PUSH and POP (R140 to R150) and ADD SP,e8 (R193), each from the rule of its shared operation and
the bytes of its form; and PUSH followed by POP. -/

namespace Sys2Proof.Machine

variable {s t : State}

/-! ### Writes to a pair -/

@[simp] theorem advance_pair (s : State) (n : Nat) (p : Pair) : (s.advance n).pair p = s.pair p := by
  cases p <;> rfl

/-- The frame of a write to a pair, then advance. -/
theorem setPair_advance_spec (s : State) (p : Pair) (v : Word) (len : Nat) :
    WrotePair s ((s.setPair p v).advance len) p v len ∧ FlagsKept s ((s.setPair p v).advance len) := by
  refine ⟨⟨by simp, fun q hq => ?_, by simp, by simp, by simp [CtlKept], memKept_of ?_ ?_ ?_ ?_ ?_⟩, by simp [FlagsKept]⟩
  · rw [advance_pair, setPair_pair_ne s hq]
  all_goals simp

/-- The flags may be written before `pc` or after it. -/
theorem setFlags_advance (s : State) (z n h c : Bool) (len : Nat) :
    (s.setFlags z n h c).advance len = (s.advance len).setFlags z n h c := rfl

/-- A write of the flags keeps the frame of a write to a pair, which does not speak of F. -/
theorem wrotePair_setFlags {p : Pair} {v : Word} {len : Nat} (wrote : WrotePair s t p v len) (z n h c : Bool) :
    WrotePair s (t.setFlags z n h c) p v len := by
  simpa [WrotePair, CtlKept, MemKept] using wrote

/-- The flags are as given and F[3:0] is as before, also when other registers were written first. -/
theorem flagsAre_setFlags_of_flagsKept (kept : FlagsKept s t) (z n h c : Bool) :
    FlagsAre s (t.setFlags z n h c) z n h c := by
  have flags := setFlags_flagsAre t z n h c
  unfold FlagsAre at flags ⊢
  rwa [kept] at flags

/-- The frame of a write to a pair, then flags, then advance. -/
theorem setPair_setFlags_advance_spec (s : State) (p : Pair) (v : Word) (z n h c : Bool) (len : Nat) :
    WrotePair s (((s.setPair p v).setFlags z n h c).advance len) p v len ∧
      FlagsAre s (((s.setPair p v).setFlags z n h c).advance len) z n h c := by
  obtain ⟨wrote, kept⟩ := setPair_advance_spec s p v len
  rw [setFlags_advance]
  exact ⟨wrotePair_setFlags wrote z n h c, flagsAre_setFlags_of_flagsKept kept z n h c⟩

/-- Settles O34: every row is a write to a pair, then advance (`setPair_advance_spec`). -/
theorem loadPairs : Obligations.LoadPairs :=
  ⟨fun _ p n s h => completes_of_form h ⟨_, rfl, setPair_advance_spec s p n 3⟩,
    fun s => completes_of_form rfl ⟨_, rfl, setPair_advance_spec s .sp s.hl 1⟩⟩

/-- Settles O35, by the rule of `loadMemSp`. -/
theorem storeStackPointer : Obligations.StoreStackPointer :=
  fun _ a hs => completes_of_form rfl (loadMemSp_spec hs a)

/-- Settles O36: both rows write the sum to a pair and then the flags of the unsigned sum
(`setPair_setFlags_advance_spec`). -/
theorem stackPointerDisplacement : Obligations.StackPointerDisplacement :=
  fun s _ => ⟨completes_of_form rfl ⟨_, rfl, setPair_setFlags_advance_spec s .hl _ _ _ _ _ 2⟩,
    completes_of_form rfl ⟨_, rfl, setPair_setFlags_advance_spec s .sp _ _ _ _ _ 2⟩⟩

/-! ### PUSH and POP -/

/-- PUSH drops the low nibble of F, and of no other pair (R147, R148). -/
theorem pushValue_eq (s : State) (p : StackPair) :
    pushValue s p = if p = .af then s.af &&& 0xFFF0#16 else s.stackPair p := by
  cases p <;> rfl

/-- A written pair reads back, AF with the low nibble of F zero (R22, R24). -/
theorem setStackPair_stackPair_self (s : State) (p : StackPair) (v : Word) :
    (s.setStackPair p v).stackPair p = if p = .af then v &&& 0xFFF0#16 else v := by
  cases p <;> rfl

/-- The mask on a word clears the low nibble of its low byte. -/
theorem wordOf_and_low (hi lo : Byte) : wordOf hi lo &&& 0xFFF0#16 = wordOf hi (lo &&& 0xF0#8) := by
  rw [← wordOf_hiByte_loByte (wordOf hi lo &&& 0xFFF0#16), hiByte_and_low, loByte_and_low, hiByte_wordOf, loByte_wordOf]

/-- A row that reads a word has the fault of that read (R58, R282). -/
theorem readFaults_of_reads_word {i : Instr} {g : Form} {a : Word} (h : i.form = g) (hr : Reads s g a 2) :
    ReadFaults i s (memRead16 s a) := by
  intro f hf
  rcases runForm_of_reads hr with ⟨one, -⟩ | ⟨-, k, hk⟩
  · exact absurd one (by decide)
  · rw [exec_of_form h, hk, withRead_error hf k]

/-- Settles O37, by the rule of `pushPair`. -/
theorem pushStoresPair : Obligations.PushStoresPair := by
  intro i p s hs h
  rw [← pushValue_eq]
  exact completes_of_form h (pushPair_spec hs p)

/-- Settles O38, by the rule of `popPair`: what AF takes is the word without the low nibble of its low byte
(`wordOf_and_low`). -/
theorem popLoadsPair : Obligations.PopLoadsPair := by
  intro i p s h
  refine ⟨fun lo hi hlo hhi => completes_of_form h ?_, readFaults_of_reads_word h (.pop p)⟩
  have rule := popPair_spec (p := p) hlo hhi
  rwa [setStackPair_stackPair_self, wordOf_and_low] at rule

/-- A word stored in two RAM bytes at SP is what POP gives to a pair (R146, R149, R150). -/
theorem popPair_of_storedWord {a w : Word} (stored : StoredWord s t a w) (hsp : t.sp = a) (hlo : 0x8000 ≤ a.toNat)
    (hhi : 0x8000 ≤ (a + 1).toNat) (q : StackPair) :
    ∃ u, popPair q t = .next u ∧ u.sp = a + 2 ∧ u.stackPair q = if q = .af then w &&& 0xFFF0#16 else w := by
  subst hsp
  obtain ⟨-, -, -, -, readLo, readHi, -⟩ := stored
  obtain ⟨u, hu, hpair, -, hspu, -⟩ := popPair_spec (p := q) (readLo hlo) (readHi hhi)
  rw [setStackPair_stackPair_self, wordOf_hiByte_loByte] at hpair
  exact ⟨u, hu, hspu, hpair⟩

/-- The mask of PUSH AF and the mask of POP AF are one mask. -/
theorem pushValue_masked (s : State) (p q : StackPair) :
    (if q = .af then pushValue s p &&& 0xFFF0#16 else pushValue s p) =
      if p = .af ∨ q = .af then s.stackPair p &&& 0xFFF0#16 else s.stackPair p := by
  by_cases hp : p = .af
  · subst hp
    have twice : (s.af &&& 0xFFF0#16) &&& 0xFFF0#16 = s.af &&& 0xFFF0#16 := by rw [BitVec.and_assoc, BitVec.and_self]
    simp [pushValue, State.stackPair, twice]
  · simp [pushValue_eq, hp]

/-- Settles O39: PUSH stores the word where POP reads it (`pushPair_spec`, `popPair_of_storedWord`), and SP comes back
to where it was. -/
theorem pushThenPopTransfersPair : Obligations.PushThenPopTransfersPair := by
  intro i j p q s hs hi hj hlo hhi
  obtain ⟨t, ht, hspt, stored, -⟩ := pushPair_spec hs p
  have next : s.sp - 2 + 1 = s.sp - 1 := by bv_omega
  obtain ⟨u, hu, hspu, hpair⟩ := popPair_of_storedWord stored hspt hlo (by rwa [next]) q
  refine ⟨t, u, by rw [exec_of_form hi]; exact ht, by rw [exec_of_form hj]; exact hu, ?_, ?_⟩
  · rw [hspu, BitVec.sub_add_cancel]
  · rw [hpair, pushValue_masked]

end Sys2Proof.Machine
end

section
/-! 8-bit arithmetic and logic (R160 to R176): each flag computation against the integers of its statement, and each row
from the rule of its shared operation and the bytes of its form. -/

namespace Sys2Proof.Machine

variable {s : State} {i : Instr}

/-! ### From a flag computation to its rows -/

/-- A row of an accumulator operation puts into A and F what the operation computes from A, the operand and the carry
(R160). -/
theorem accumulates_of_operand {op : AluOp} {v res : Byte} {bytes : List Byte} {z n h c : Bool}
    (operand : AluOperand i op s v bytes) (flags : aluFlags op s.a v s.flagC = ⟨res, z, n, h, c⟩) :
    Accumulates i bytes s res z n h c := by
  have register {o : Opnd8} (read : readOpnd s o = .ok v) := aluOpnd_spec (op := op) read
  have immediate := aluImm_spec (s := s) op v
  simp only [flags] at register immediate
  rcases operand with ⟨r, form, rfl, rfl⟩ | ⟨form, read, rfl⟩ | ⟨form, rfl⟩
  · exact completes_of_form form (register rfl)
  · exact completes_of_form form (register read) (by cases op <;> rfl)
  · exact completes_of_form form immediate

/-- The `(HL)` row of every accumulator operation faults where its read does (R160, R282). -/
theorem aluFaults (i : Instr) (op : AluOp) (s : State) : AluFaults i op s :=
  fun form => readFaults_of_reads form (.alu op)

/-- A row that puts a result into A and its flags into F. -/
theorem accumulates_of_accResult {g : Form} {bytes : List Byte} {res : Byte} {z n h c : Bool} (form : i.form = g)
    (run : runForm g s = .next ((accResult s ⟨res, z, n, h, c⟩).advance bytes.length))
    (encoded : g.encode = bytes := by rfl) : Accumulates i bytes s res z n h c :=
  completes_of_form form ⟨_, run, accResult_spec _ _⟩ encoded

/-! ### Addition, subtraction and logic -/

/-- Settles O40: `addFlags` is stated in the same integers; ADD has no carry in. -/
theorem addToAccumulator : Obligations.AddToAccumulator :=
  fun i s _ _ => ⟨fun operand => accumulates_of_operand operand rfl, fun operand => accumulates_of_operand operand rfl,
    aluFaults i .add s, aluFaults i .adc s⟩

/-- A result is the zero byte when the integer it was narrowed from is 0 modulo 256 (R161). -/
theorem decide_ofInt_eq_zero (x : Int) : decide (BitVec.ofInt 8 x = 0) = decide (x % 256 = 0) := by
  have zero : (0 : Byte).toNat = 0 := rfl
  rw [decide_eq_decide, ← BitVec.toNat_inj, BitVec.toNat_ofInt, zero]
  omega

/-- The wrapped difference is the integer difference modulo 256 (R161, R165, R166). -/
theorem subFlags_eq (a b : Byte) (cin : Bool) : subFlags a b cin =
    ⟨BitVec.ofInt 8 ((a.toNat : Int) - b.toNat - cin.toNat),
      decide (((a.toNat : Int) - b.toNat - cin.toNat) % 256 = 0), true,
      decide (a.toNat % 16 < b.toNat % 16 + cin.toNat), decide (a.toNat < b.toNat + cin.toNat)⟩ := by
  have difference : a - b - BitVec.ofNat 8 cin.toNat = BitVec.ofInt 8 ((a.toNat : Int) - b.toNat - cin.toNat) := by
    have := cin.toNat_le
    apply BitVec.eq_of_toNat_eq
    simp only [BitVec.toNat_sub, BitVec.toNat_ofNat, BitVec.toNat_ofInt]
    omega
  rw [← decide_ofInt_eq_zero, ← difference]
  rfl

/-- Without a borrow in, the difference is 0 exactly when A is the operand (R165, R170). -/
theorem subFlags_no_borrow (a b : Byte) : subFlags a b false =
    ⟨BitVec.ofInt 8 ((a.toNat : Int) - b.toNat), decide (a.toNat = b.toNat), true,
      decide (a.toNat % 16 < b.toNat % 16), decide (a.toNat < b.toNat)⟩ := by
  have zero : ((a.toNat : Int) - b.toNat) % 256 = 0 ↔ a.toNat = b.toNat := by omega
  simp [subFlags_eq, zero]

/-- Settles O41: SUB and CP compute without a borrow in (`subFlags_no_borrow`), SBC with one (`subFlags_eq`). -/
theorem subtractFromAccumulator : Obligations.SubtractFromAccumulator := by
  intro i s v bytes
  refine ⟨fun operand => accumulates_of_operand operand (subFlags_no_borrow s.a v),
    fun operand => accumulates_of_operand operand (subFlags_eq s.a v s.flagC),
    fun operand => accumulates_of_operand operand ?_, aluFaults i .sub s, aluFaults i .sbc s, aluFaults i .cp s⟩
  rw [aluFlags, subFlags_no_borrow]

/-- Settles O42: the operation on bytes is the operation on each bit. -/
theorem logicOnAccumulator : Obligations.LogicOnAccumulator :=
  fun i s v _ => ⟨fun operand => ⟨s.a &&& v, fun _ => BitVec.getLsbD_and, accumulates_of_operand operand rfl⟩,
    fun operand => ⟨s.a ^^^ v, fun _ => BitVec.getLsbD_xor, accumulates_of_operand operand rfl⟩,
    fun operand => ⟨s.a ||| v, fun _ => BitVec.getLsbD_or, accumulates_of_operand operand rfl⟩,
    aluFaults i .and s, aluFaults i .xor s, aluFaults i .or s⟩

/-! ### INC and DEC -/

/-- INC and DEC fault where the read of their operand does; a register never fails (R171, R172, R282). -/
theorem readFaults_incDec {o : Opnd8} (form : i.form = .inc8 o ∨ i.form = .dec8 o) :
    ReadFaults i s (readOpnd s o) := by
  cases o with
  | reg r => exact fun _ failed => nomatch failed
  | memHl =>
    rcases form with form | form
    · exact readFaults_of_reads form .inc
    · exact readFaults_of_reads form .dec

/-- Settles O43, by the rules of `incOpnd` and `decOpnd`, whose sums are those of the statement modulo 256. -/
theorem incDecOperand : Obligations.IncDecOperand := by
  intro i o s hs
  refine ⟨fun v read form => ?_, fun v read form => ?_, readFaults_incDec⟩
  · have sum : BitVec.ofNat 8 (v.toNat + 1) = v + 1 := by bv_omega
    have zero : decide (v.toNat = 0xFF) = decide (v + 1 = 0) := decide_eq_decide.2 (by bv_omega)
    rw [sum, zero]
    exact completes_of_form form (incOpnd_spec hs read)
  · have difference : BitVec.ofNat 8 (v.toNat + 255) = v - 1 := by bv_omega
    have zero : decide (v.toNat = 1) = decide (v - 1 = 0) := decide_eq_decide.2 (by bv_omega)
    rw [difference, zero]
    exact completes_of_form form (decOpnd_spec hs read)

/-! ### DAA -/

/-- The correction byte is the sum of the two corrections (R173). -/
theorem correction_toNat (hi lo : Bool) :
    (((if hi then 0x60#8 else 0) + (if lo then 0x06#8 else 0) : Byte).toNat : Int) =
      (if hi then 0x60 else 0) + (if lo then 0x06 else 0) := by
  cases hi <;> cases lo <;> rfl

/-- To add or subtract bytes is to do so in the integers modulo 256 (R161). -/
theorem subOrAdd_eq_ofInt (n : Bool) (a k : Byte) : (if n then a - k else a + k) =
    BitVec.ofInt 8 ((if n then (a.toNat : Int) - k.toNat else a.toNat + k.toNat) % 256) := by
  apply BitVec.eq_of_toNat_eq
  rw [BitVec.toNat_ofInt]
  cases n
  · simp only [Bool.false_eq_true, if_false, BitVec.toNat_add]
    omega
  · simp only [if_true, BitVec.toNat_sub]
    omega

/-- Settles O44: the model picks the same correction (`correction_toNat`) and applies it modulo 256
(`subOrAdd_eq_ofInt`). -/
theorem Alu8.decimalAdjust : Obligations.DecimalAdjust := by
  intro s a hi lo k r
  have corrected := subOrAdd_eq_ofInt s.flagN s.a ((if hi then 0x60#8 else 0) + (if lo then 0x06#8 else 0))
  rw [correction_toNat] at corrected
  have zero : decide (BitVec.ofInt 8 r = 0) = decide (r = 0) := by
    rw [decide_ofInt_eq_zero, Int.emod_emod]
  have flags : daaFlags s.a s.flagN s.flagH s.flagC = ⟨BitVec.ofInt 8 r, decide (r = 0), s.flagN, false, hi⟩ := by
    rw [← zero, ← corrected]
    rfl
  refine accumulates_of_accResult rfl ?_
  rw [← flags]
  rfl

/-! ### Packed decimal addition -/

/-- The number that two decimal digits stand for, one in each nibble. -/
def packedValue (x : Nat) : Nat := 10 * (x / 16) + x % 16

/-- A sum of two decimal digits and a carry is a digit and a carry, where a correction `k` is due. -/
theorem exists_digit_and_carry {m : Nat} (hm : m ≤ 19) (k : Nat) :
    ∃ digit carry, digit ≤ 9 ∧ m = 10 * carry + digit ∧ (if 10 ≤ m then k else 0) = k * carry := by
  by_cases h : 10 ≤ m
  · exact ⟨m - 10, 1, by omega, by omega, by simp [h]⟩
  · exact ⟨m, 0, by omega, by omega, by simp [h]⟩

section

variable {x y : Nat} (hx₀ : x % 16 ≤ 9) (hx₁ : x / 16 ≤ 9) (hy₀ : y % 16 ≤ 9) (hy₁ : y / 16 ≤ 9)

include hx₀ hy₀ in
/-- After ADD, DAA corrects the low digit exactly when the low digits carry (R163, R173). -/
theorem lowCorrection_iff : x % 16 + y % 16 > 0xF ∨ (x + y) % 256 % 16 > 9 ↔ 10 ≤ x % 16 + y % 16 := by
  omega

include hx₀ hy₀ in
/-- After ADD, DAA corrects the high digit exactly when the sum of the decimals carries (R163, R173). -/
theorem highCorrection_iff :
    x + y > 0xFF ∨ (x + y) % 256 > 0x99 ↔ packedValue x + packedValue y ≥ 100 := by
  unfold packedValue
  omega

include hx₀ hx₁ hy₀ hy₁ in
/-- The binary sum, corrected for each decimal carry, is the packed decimal sum modulo 100. -/
theorem packedValue_corrected {r : Nat}
    (hr : r = ((x + y) % 256 + ((if packedValue x + packedValue y ≥ 100 then 0x60 else 0) +
      (if 10 ≤ x % 16 + y % 16 then 0x06 else 0))) % 256) :
    packedValue r = (packedValue x + packedValue y) % 100 ∧ r % 16 ≤ 9 ∧ r / 16 ≤ 9 := by
  obtain ⟨low, c, hlow, lowSum, lowCorrection⟩ := exists_digit_and_carry (m := x % 16 + y % 16) (by omega) 0x06
  obtain ⟨high, d, hhigh, highSum, highCorrection⟩ :=
    exists_digit_and_carry (m := x / 16 + y / 16 + c) (by omega) 0x60
  have carries : packedValue x + packedValue y ≥ 100 ↔ 10 ≤ x / 16 + y / 16 + c := by
    unfold packedValue
    omega
  have sum : packedValue x + packedValue y = 100 * d + (10 * high + low) := by
    unfold packedValue
    omega
  simp only [carries, lowCorrection, highCorrection] at hr
  have digits : r = 16 * high + low := by omega
  rw [sum]
  unfold packedValue
  omega

end

/-- Settles O45: DAA corrects the sum of ADD (`addToAccumulator`, `Alu8.decimalAdjust`) where the decimals carry
(`lowCorrection_iff`, `highCorrection_iff`), which gives the packed decimal sum (`packedValue_corrected`). -/
theorem decimalAdjustAddsDecimals : Obligations.DecimalAdjustAddsDecimals := by
  intro s v ha₀ ha₁ hv₀ hv₁ dec
  obtain ⟨-, t, ht, sum, ⟨-, flagN, flagH, flagC, -⟩, -⟩ :=
    (addToAccumulator (.addAD8 v) s v _).1 (.inr (.inr ⟨rfl, rfl⟩))
  obtain ⟨-, u, hu, adjusted, ⟨-, -, -, carry, -⟩, -⟩ := Alu8.decimalAdjust t
  simp only [sum, flagN, flagH, flagC, BitVec.toNat_ofNat, Bool.false_eq_true, if_false, ← Bool.decide_or,
    decide_eq_true_eq, Nat.reducePow, lowCorrection_iff ha₀ hv₀, highCorrection_iff ha₀ hv₀] at adjusted carry
  have toNat : u.a.toNat = ((s.a.toNat + v.toNat) % 256 +
      ((if packedValue s.a.toNat + packedValue v.toNat ≥ 100 then 0x60 else 0) +
        (if 10 ≤ s.a.toNat % 16 + v.toNat % 16 then 0x06 else 0))) % 256 := by
    rw [adjusted, BitVec.toNat_ofInt]
    split_ifs <;> omega
  obtain ⟨value, low, high⟩ := packedValue_corrected ha₀ ha₁ hv₀ hv₁ toNat
  exact ⟨t, u, ht, hu, value, low, high, carry⟩

/-! ### CPL, SCF and CCF -/

theorem setReg8_self (s : State) (r : Reg8) : s.setReg8 r (s.reg8 r) = s := by
  cases r <;> simp [State.setReg8, State.reg8, setHi, setLo]

/-- A row that writes flags only also leaves A as a result: the one it has. -/
theorem setFlags_eq_accResult (s : State) (z n h c : Bool) : s.setFlags z n h c = accResult s ⟨s.a, z, n, h, c⟩ := by
  simp only [accResult, State.a, setReg8_self, State.putFlags]

/-- Settles O46: CPL puts a result into A, SCF and CCF put back the A that stands there (`setFlags_eq_accResult`). -/
theorem complementAndCarry : Obligations.ComplementAndCarry := by
  intro s
  have complement : ~~~ s.a = BitVec.ofNat 8 (255 - s.a.toNat) := by bv_omega
  refine ⟨accumulates_of_accResult rfl ?_, accumulates_of_accResult rfl ?_, accumulates_of_accResult rfl ?_⟩
  · rw [← complement]; rfl
  all_goals rw [← setFlags_eq_accResult]; rfl

end Sys2Proof.Machine
end

section
/-! 16-bit arithmetic on the pairs (R190 to R192): each result is the integer sum modulo 2^16, and each row is a write to
a pair by the rules of the 16-bit loads. -/

namespace Sys2Proof.Machine

/-- Settles O47: the row writes the sum to HL and then the flags, of which Z is the one it had
(`setPair_setFlags_advance_spec`); H and C are computed from the integers of the statement. -/
theorem addToHl : Obligations.AddToHl := by
  intro i p s form x y
  have sum : BitVec.ofNat 16 (x + y) = s.hl + s.pair p := (BitVec.add_def s.hl (s.pair p)).symm
  rw [sum]
  exact completes_of_form form ⟨_, rfl, setPair_setFlags_advance_spec s .hl _ _ _ _ _ 1⟩

/-- Settles O48: every row writes the pair and no flag (`setPair_advance_spec`); one less is 0xFFFF more modulo 2^16. -/
theorem incDecPair : Obligations.IncDecPair := by
  intro i p s
  constructor
  · intro form
    have oneMore : BitVec.ofNat 16 ((s.pair p).toNat + 1) = s.pair p + 1 := (BitVec.add_def (s.pair p) 1).symm
    rw [oneMore]
    exact completes_of_form form ⟨_, rfl, setPair_advance_spec s p _ 1⟩
  · intro form
    have oneLess : BitVec.ofNat 16 ((s.pair p).toNat + 0xFFFF) = s.pair p - 1 := by bv_omega
    rw [oneLess]
    exact completes_of_form form ⟨_, rfl, setPair_advance_spec s p _ 1⟩

end Sys2Proof.Machine
end

section
/-! Rotates, shifts and bit operations (R200 to R215): each result bit by bit, and each row from the rule of its shared
operation and the bytes of its form. -/

namespace Sys2Proof.Machine

variable {s : State} {i : Instr}

/-! ### Results bit by bit -/

/-- A shift to the left moves every bit up by one and puts `b` below them. -/
theorem shiftInLow_getLsbD (v : Byte) (b : Bool) {k : Nat} (hk : k < 8) :
    (shiftInLow v b).getLsbD k = if k = 0 then b else v.getLsbD (k - 1) := by
  rw [shiftInLow, BitVec.getLsbD_append]
  by_cases low : k = 0
  · simp [low]
  · have notLow : ¬ k < 1 := by omega
    have inRange : k - 1 < 7 := by omega
    simp [low, notLow, inRange]

/-- A shift to the right moves every bit down by one and puts `b` above them. -/
theorem shiftInHigh_getLsbD (b : Bool) (v : Byte) {k : Nat} (hk : k < 8) :
    (shiftInHigh b v).getLsbD k = if k = 7 then b else v.getLsbD (k + 1) := by
  rw [shiftInHigh, BitVec.getLsbD_append]
  by_cases high : k = 7
  · simp [high]
  · have inRange : k < 7 := by omega
    simp [high, inRange, Nat.add_comm]

/-- The exchanged nibbles: every bit comes from the place four away. -/
theorem swapNibbles_getLsbD (v : Byte) {k : Nat} (hk : k < 8) :
    (v.extractLsb' 0 4 ++ v.extractLsb' 4 4 : BitVec 8).getLsbD k = v.getLsbD ((k + 4) % 8) := by
  rw [BitVec.getLsbD_append]
  by_cases low : k < 4
  · have place : (k + 4) % 8 = 4 + k := by omega
    simp [low, place]
  · have place : (k + 4) % 8 = k - 4 := by omega
    have inRange : k - 4 < 4 := by omega
    simp [low, place, inRange]

/-- The result of each rotate and shift is the one its rule names bit by bit (R205 to R212): the bit shifted in comes
from the end that the rule takes it from. -/
theorem rotResult_getLsbD (op : RotOp) (v : Byte) (cin : Bool) {k : Nat} (hk : k < 8) :
    (rotResult op v cin).1.getLsbD k = rotatedBit op v cin k := by
  cases op with
  | rl | sla => exact shiftInLow_getLsbD v _ hk
  | rr | srl => exact shiftInHigh_getLsbD _ v hk
  | swap => exact swapNibbles_getLsbD v hk
  | rlc =>
    have place : (k + 7) % 8 = if k = 0 then 7 else k - 1 := by split_ifs <;> omega
    rw [rotatedBit, place, apply_ite v.getLsbD]
    exact shiftInLow_getLsbD v _ hk
  | rrc =>
    have place : (k + 1) % 8 = if k = 7 then 0 else k + 1 := by split_ifs <;> omega
    rw [rotatedBit, place, apply_ite v.getLsbD]
    exact shiftInHigh_getLsbD _ v hk
  | sra =>
    have place : min (k + 1) 7 = if k = 7 then 7 else k + 1 := by split_ifs <;> omega
    rw [rotatedBit, place, apply_ite v.getLsbD]
    exact shiftInHigh_getLsbD _ v hk

/-- The bit that leaves is the one the rule names. -/
theorem rotResult_snd (op : RotOp) (v : Byte) (cin : Bool) : (rotResult op v cin).2 = shiftedOut op v := by
  cases op <;> rfl

/-! ### The statements -/

/-- A row of an accumulator rotate puts into A what the operation computes from A and the carry, with Z clear
(R200 to R203). -/
theorem accumulates_of_rotAcc {op : RotOp} {g : Form} {code : Byte} (form : i.form = g)
    (run : runForm g s = rotAcc op s) (encoded : g.encode = [code]) :
    Accumulates i [code] s (rotResult op s.a s.flagC).1 false false false (shiftedOut op s.a) := by
  rw [← rotResult_snd op s.a s.flagC]
  exact accumulates_of_accResult form run encoded

/-- Settles O49: each row is `rotAcc` of its operation, whose result is known bit by bit (`rotResult_getLsbD`). -/
theorem rotateAccumulator : Obligations.RotateAccumulator := by
  intro i s op code row
  refine ⟨_, fun _ => rotResult_getLsbD op s.a s.flagC, ?_⟩
  simp only [List.mem_cons, Prod.mk.injEq, List.not_mem_nil, or_false] at row
  rcases row with ⟨rfl, rfl, rfl⟩ | ⟨rfl, rfl, rfl⟩ | ⟨rfl, rfl, rfl⟩ | ⟨rfl, rfl, rfl⟩
  all_goals exact accumulates_of_rotAcc rfl rfl rfl

/-- The rows of a form that begins with the read of its operand fault where the read does; a register never fails
(R204, R282). -/
theorem readFaults_of_readOpnd {g : Opnd8 → Form} {o : Opnd8} (form : i.form = g o) (hr : Reads s (g .memHl) s.hl 1) :
    ReadFaults i s (readOpnd s o) := by
  cases o with
  | reg r => exact fun _ failed => nomatch failed
  | memHl => exact readFaults_of_reads form hr

/-- Settles O50, by the rule of `rotOpnd`, whose result is known bit by bit (`rotResult_getLsbD`). -/
theorem rotateOperand : Obligations.RotateOperand := by
  intro i op o s hs form
  refine ⟨fun v read => ⟨_, fun _ => rotResult_getLsbD op v s.flagC, ?_⟩, readFaults_of_readOpnd form (.rot op)⟩
  rw [← rotResult_snd op v s.flagC]
  exact completes_of_form form (rotOpnd_spec hs read)

/-- Settles O51, by the rule of `bitOpnd`. -/
theorem bitTestsOperand : Obligations.BitTestsOperand := by
  intro i n o s form
  refine ⟨fun v read => completes_of_form form ?_, readFaults_of_readOpnd form (.bit n)⟩
  obtain ⟨t, run, flags, frame⟩ := bitOpnd_spec (n := n) read
  exact ⟨t, run, frame, flags⟩

/-- Settles O52, by the rules of `resOpnd` and `setOpnd`, whose results are known bit by bit (`clearBit_getLsbD`,
`raiseBit_getLsbD`). -/
theorem resAndSetChangeOneBit : Obligations.ResAndSetChangeOneBit := by
  intro i n o s hs
  refine ⟨fun v read form => ⟨_, fun k _ => clearBit_getLsbD n v k, completes_of_form form (resOpnd_spec hs read)⟩,
    fun v read form => ⟨_, fun k _ => raiseBit_getLsbD n v k, completes_of_form form (setOpnd_spec hs read)⟩, ?_⟩
  rintro (form | form)
  · exact readFaults_of_readOpnd form (.res n)
  · exact readFaults_of_readOpnd form (.set n)

end Sys2Proof.Machine
end

section
/-! Control transfer (R230 to R242): the next state of each operation, taken and not taken, and each row from it and the
bytes of its form; and CALL followed by RET. -/

namespace Sys2Proof.Machine

variable {s t u : State} {i : Instr}

/-! ### Taken and not taken -/

/-- A row of a conditional transfer completes in one of two states, by the condition of R87. -/
theorem completes_of_condition {g : Form} {cc : Cond} {bytes : List Byte} {P Q : State → Prop} (form : i.form = g)
    (encoded : g.encode = bytes) (run : runForm g s = .next (if s.cond cc then t else u)) (taken : P t)
    (notTaken : Q u) :
    Completes i bytes s fun r => (condHolds s cc → P r) ∧ (¬ condHolds s cc → Q r) := by
  refine completes_of_form form ⟨_, run, fun holds => ?_, fun fails => ?_⟩ encoded
  · rwa [if_pos (cond_eq_true_iff.2 holds)]
  · rwa [if_neg (mt cond_eq_true_iff.1 fails)]

/-! ### Jumps -/

theorem onlyJumps_jump (s : State) (v : Word) : OnlyJumps s (s.jump v) v :=
  ⟨jump_pc s v, by simp [RegsAndCtlKept, RegsKept, FlagsKept, CtlKept], jump_sp s v, memKept_of rfl rfl rfl rfl rfl⟩

/-- A transfer not taken goes to the next instruction (R230). -/
theorem onlyJumps_advance (s : State) (len : Nat) : OnlyJumps s (s.advance len) (s.pc + BitVec.ofNat 16 len) :=
  onlyJumps_jump s (s.nextPc len)

/-- Settles O54: each row is a jump to its target (`onlyJumps_jump`), or an advance where its condition fails. -/
theorem absoluteJumps : Obligations.AbsoluteJumps := by
  refine ⟨fun s a => ⟨?_, ?_⟩, fun i cc a s form => ?_⟩
  · exact completes_of_form rfl ⟨_, rfl, onlyJumps_jump s a⟩ rfl
  · exact completes_of_form rfl ⟨_, rfl, onlyJumps_jump s s.hl⟩ rfl
  · exact completes_of_condition form rfl rfl (onlyJumps_jump s a) (onlyJumps_advance s 3)

/-- The target of a relative jump is the integer sum modulo 2^16, with the displacement signed (R89, R234). -/
theorem relTarget_eq_ofInt (e : Byte) (s : State) :
    relTarget e s = BitVec.ofInt 16 ((s.pc.toNat : Int) + 2 + e.toInt) := by
  rw [BitVec.ofInt_add, BitVec.ofInt_add, BitVec.ofInt_natCast, BitVec.ofNat_toNat, BitVec.setWidth_eq]
  rfl

/-- Settles O55: each row is a jump to `relTarget`, which is the target of the statement (`relTarget_eq_ofInt`), or an
advance where its condition fails. -/
theorem relativeJumps : Obligations.RelativeJumps := by
  intro s e target
  have jumps : OnlyJumps s (s.jump (relTarget e s)) target := by
    rw [relTarget_eq_ofInt]
    exact onlyJumps_jump s target
  refine ⟨completes_of_form rfl ⟨_, rfl, jumps⟩ rfl, fun i cc form => ?_⟩
  exact completes_of_condition form rfl rfl jumps (onlyJumps_advance s 2)

/-! ### Calls -/

/-- Settles O56: each row is `callTo` its target (`callTo_spec`), or an advance where its condition fails. -/
theorem callsPushReturnAddress : Obligations.CallsPushReturnAddress := by
  refine ⟨fun s a hs => ?_, fun i cc a s hs form => ?_, fun i k s hs form => ?_⟩
  · exact completes_of_form rfl ⟨_, rfl, callTo_spec hs a 3⟩ rfl
  · exact completes_of_condition form rfl rfl (callTo_spec hs a 3) (onlyJumps_advance s 3)
  · exact completes_of_form form ⟨_, rfl, callTo_spec hs _ 1⟩ rfl

/-! ### Returns -/

/-- A taken RET cc is RET (R239). -/
theorem returnCond_taken {cc : Cond} (holds : condHolds s cc) : returnCond cc s = returnOp s :=
  if_pos (cond_eq_true_iff.2 holds)

/-- A RET cc not taken advances and does not read the stack (R239). -/
theorem returnCond_not_taken {cc : Cond} (fails : ¬ condHolds s cc) : returnCond cc s = .next (s.advance 1) :=
  if_neg (mt cond_eq_true_iff.1 fails)

/-- RET goes to the word that was popped (R238). -/
theorem returnOp_of_popWord {v : Word} (read : popWord s = .ok v) : returnOp s = .next (s.popped.jump v) := by
  rw [returnOp, read, withRead]

/-- The frame of a return; `Returns` leaves `ime` open, and RETI sets it (R238, R240). -/
theorem returns_popped_jump (s : State) (lo hi : Byte) (b : Bool) :
    Returns s { s.popped.jump (wordOf hi lo) with ime := b } lo hi :=
  ⟨rfl, rfl, fun r _ => by cases r <;> rfl, rfl, rfl, rfl, memKept_of rfl rfl rfl rfl rfl⟩

/-- RET where both stack bytes are readable (R238). -/
theorem returnOp_returns {lo hi : Byte} (readLo : memRead8 s s.sp = .ok lo) (readHi : memRead8 s (s.sp + 1) = .ok hi) :
    ∃ t, returnOp s = .next t ∧ Returns s t lo hi ∧ t.ime = s.ime :=
  ⟨_, returnOp_spec readLo readHi, returns_popped_jump s lo hi s.ime, rfl⟩

/-- Settles O57: RET and a taken RET cc by `returnOp_returns`, RETI by `returnEnable_spec`; each begins with the read of
the word at SP, but for a RET cc not taken. -/
theorem returnsPopAddress : Obligations.ReturnsPopAddress := by
  refine ⟨fun s lo hi readLo readHi => ⟨?_, ?_, fun i cc form holds => ?_⟩,
    fun s => ⟨?_, ?_, fun i cc form holds => ?_⟩, fun i cc s form fails => ?_⟩
  · exact completes_of_form rfl (returnOp_returns readLo readHi) rfl
  · exact completes_of_form rfl ⟨_, returnEnable_spec readLo readHi, returns_popped_jump s lo hi true, rfl⟩ rfl
  · refine completes_of_form form ?_ rfl
    rw [runForm, returnCond_taken holds]
    exact returnOp_returns readLo readHi
  · exact readFaults_of_reads_word rfl .ret
  · exact readFaults_of_reads_word rfl .reti
  · exact readFaults_of_reads_word form (.retCond cc holds)
  · exact completes_of_form form ⟨_, returnCond_not_taken fails, onlyJumps_advance s 1⟩ rfl

/-! ### CALL, then RET -/

/-- A word stored in two RAM bytes reads back (R55, R59). -/
theorem memRead16_of_storedWord {a w : Word} (stored : StoredWord s t a w) (hlo : 0x8000 ≤ a.toNat)
    (hhi : 0x8000 ≤ (a + 1).toNat) : memRead16 t a = .ok w := by
  obtain ⟨-, -, -, -, readLo, readHi, -⟩ := stored
  rw [memRead16_ok (readLo hlo) (readHi hhi), wordOf_hiByte_loByte]

/-- Settles O58: CALL stores the return address where RET reads it (`callTo_spec`, `memRead16_of_storedWord`), and SP
comes back to where it was. -/
theorem returnUndoesCall : Obligations.ReturnUndoesCall := by
  intro s a hs hlo hhi
  obtain ⟨hsp, stored, -, hpc⟩ := callTo_spec hs a 3
  have next : s.sp - 2 + 1 = s.sp - 1 := by bv_omega
  have word := memRead16_of_storedWord stored hlo (by rwa [next])
  refine ⟨callTo a 3 s, rfl, hsp, word, hpc, fun u sameSp sameWord => ?_⟩
  have popped : popWord u = .ok (s.pc + 3) := by
    rw [popWord, sameWord, hsp]
    exact word
  refine ⟨_, returnOp_of_popWord popped, rfl, ?_⟩
  rw [jump_sp, popped_sp, sameSp, hsp, BitVec.sub_add_cancel]

end Sys2Proof.Machine
end

section
/-! System instructions (R260 to R265): the escape row is the row of the secondary table that its second byte selects;
the next state of the five other rows; and the pause that HALT and STOP begin, up to `WAKE` (R288). -/

namespace Sys2Proof.Machine

variable {s : State} {i : Instr}

/-! ### The escape row -/

/-- The escape runs what its fields name (R94, R263); a bit number is taken modulo 8 before or after. -/
theorem runForm_cbFieldForm (o : Byte) (s : State) : runForm (cbFieldForm o) s = runEscape o s := by
  have bit : Fin.ofNat 8 (o.toNat / 8 % 8) = Fin.ofNat 8 (o.toNat / 8) := Fin.ext (Nat.mod_mod _ _)
  unfold runEscape cbFieldForm
  rw [bit]
  generalize o.toNat / 64 = x
  match x with
  | 0 | 1 | 2 | _ + 3 => rfl

/-- The two ways to run the secondary table agree: behind the escape, or as the instruction decoded from it. -/
theorem exec_prefixCb (o : Byte) (s : State) : exec (.prefixCb o) s = exec (decodeCb o) s := by
  have fields : (decodeCb o).form = cbFieldForm o := secondaryTableFollowsFields o 0
  rw [exec_of_form fields, runForm_cbFieldForm]
  rfl

/-- A read that succeeds is all that an operation beginning with it waits for. -/
theorem withRead_ok {α : Type} {r : Except Fault α} {v : α} (h : r = .ok v) (k : α → State) :
    withRead r k = .next (k v) := by rw [h]; rfl

/-- Every operation of the secondary table completes once its operand is read (R204, R283). -/
theorem runEscape_next_of_readOpnd {o v : Byte} (read : readOpnd s (opndOfIndex (o.toNat % 8)) = .ok v) :
    ∃ t, runEscape o s = .next t := by
  unfold runEscape
  split <;> exact ⟨_, withRead_ok read _⟩

/-- Only index 6 of the operand table is in memory (R85). -/
theorem exists_readOpnd_opndOfIndex {k : Nat} (hl : k = 6 → ∃ v, memRead8 s s.hl = .ok v) :
    ∃ v, readOpnd s (opndOfIndex k) = .ok v := by
  unfold opndOfIndex
  split
  case h_7 => exact hl rfl
  all_goals exact ⟨_, rfl⟩

/-- Settles O53: the bytes are those of the instruction selected, which decode to it (`decodeOfEncode`), the meaning is
its meaning (`exec_prefixCb`), and nothing fails but the read of its operand (`runEscape_next_of_readOpnd`). -/
theorem escapeRunsSecondaryTable : Obligations.EscapeRunsSecondaryTable := by
  intro o s
  have bytes := encode_decodeCb o
  have decoded := decodeOfEncode (decodeCb o) [] (decodeCb_wellFormed o)
  rw [bytes] at decoded
  refine ⟨decoded, exec_prefixCb o s, bytes.symm, fun hl => ?_⟩
  obtain ⟨v, read⟩ := exists_readOpnd_opndOfIndex hl
  exact runEscape_next_of_readOpnd read

/-! ### The rows that write control state -/

/-- Settles O59: each row is an advance after at most one write of control state. -/
theorem systemInstructions : Obligations.SystemInstructions := by
  intro s i n
  refine ⟨?nop, ?halt, ?stop, ?di, ?ei⟩ <;> rintro rfl <;> exact ⟨rfl, rfl⟩

/-! ### The pause and `WAKE` -/

/-- HALT and STOP complete, and leave the core paused (R261, R262). -/
theorem exec_pauses (h : i = .halt ∨ ∃ n, i = .stop n) (s : State) :
    ∃ t, exec i s = .next t ∧ t.runState ≠ .running := by
  rcases h with rfl | ⟨n, rfl⟩
  · exact ⟨_, rfl, (by decide : RunState.halted ≠ .running)⟩
  · exact ⟨_, rfl, (by decide : RunState.stopped ≠ .running)⟩

/-- `WAKE` is available to a paused core (R288). -/
theorem envMove_wake_of_paused (h : s.runState ≠ .running) : s.envMove .wake = some { s with runState := .running } :=
  if_neg h

/-- Settles O60: neither the idle step (`step_paused`) nor `WAKE` (`envMove_wake_of_paused`) looks at anything but
`run_state`. -/
theorem haltAndStopPauseUntilWake : Obligations.HaltAndStopPauseUntilWake := by
  intro i s h
  obtain ⟨t, run, paused⟩ := exec_pauses h s
  refine ⟨t, run, paused, fun ime c => ?_⟩
  exact ⟨step_paused (s := { t with ime := ime, cyc := c }) paused,
    envMove_wake_of_paused (s := { t with ime := ime, cyc := c }) paused⟩

end Sys2Proof.Machine
end

section
/-! Exceptions (R280 to R284): the order in which the fetch reads and the illegal byte fault; and what a step reports to
the driver, by its outcome, with the state that each report leaves. -/

namespace Sys2Proof.Machine

variable {s t : State} {f : Fault} {op b1 : Byte}

/-! ### The fetch faults in order -/

/-- The opcode is read first (R284). -/
theorem fetch_error_of_opcode (h₀ : memRead8 s s.pc = .error f) : fetch s = .error f := by
  simp only [fetch, h₀]

/-- Byte 1 is read next, if the length calls for it (R284). -/
theorem fetch_error_of_byte1 (h₀ : memRead8 s s.pc = .ok op) (hl : 2 ≤ instrLength op)
    (h₁ : memRead8 s (s.pc + 1) = .error f) : fetch s = .error f := by
  simp only [fetch, h₀, h₁, if_neg (show instrLength op ≠ 1 by omega)]

/-- Byte 2 is read last, if the length calls for it (R284). -/
theorem fetch_error_of_byte2 (h₀ : memRead8 s s.pc = .ok op) (hl : instrLength op = 3)
    (h₁ : memRead8 s (s.pc + 1) = .ok b1) (h₂ : memRead8 s (s.pc + 2) = .error f) : fetch s = .error f := by
  simp only [fetch, h₀, h₁, h₂, hl]
  rfl

/-- No byte is fetched after an illegal byte (R266). -/
theorem instrLength_illegal (h : op ∈ illegalBytes) : instrLength op = 1 := by
  fin_cases h <;> rfl

/-- A Running core with an illegal byte at `pc` faults, whatever follows the byte (R266, R281). -/
theorem step_of_illegalByte (hr : s.runState = .running) (h₀ : memRead8 s s.pc = .ok op) (h : op ∈ illegalBytes) :
    step s = .fault (.illegalOpcode s.pc op) := by
  have hl := instrLength_illegal h
  have fetched := fetch_eq_of_reads (b1 := 0) (b2 := 0) h₀ (by omega) (by omega)
  rw [step_of_fetch hr fetched, illegalBytesFault.1 op _ _ h s]
  rfl

/-- Settles O15: a read that fails in its turn is the fetch's fault, and an illegal byte is one byte long, so that
nothing after it is read (`step_of_illegalByte`). -/
theorem fetchFaultsInOrder : Obligations.FetchFaultsInOrder := by
  intro s f op b1 hr
  refine ⟨fun h₀ => ?opcode, step_of_illegalByte hr, fun h₀ hl h₁ => ?byte1, fun h₀ hl h₁ h₂ => ?byte2⟩
  case opcode => exact step_of_fetch_error hr (fetch_error_of_opcode h₀)
  case byte1 => exact step_of_fetch_error hr (fetch_error_of_byte1 h₀ hl h₁)
  case byte2 => exact step_of_fetch_error hr (fetch_error_of_byte2 h₀ hl h₁ h₂)

/-! ### What a fault says of the state -/

/-- A step raises `IllegalOpcode` only in a Running core, on the illegal byte at `pc`, and names both (R281). -/
theorem step_illegalOpcode {a : Word} (h : step s = .fault (.illegalOpcode a op)) :
    s.runState = .running ∧ a = s.pc ∧ memRead8 s s.pc = .ok op ∧ op ∈ illegalBytes := by
  obtain ⟨hr, hf | ⟨o, c1, c2, hf, hx⟩⟩ := step_fault h
  · obtain ⟨b, hread⟩ := fetch_error hf
    obtain ⟨i, hi, -⟩ := memRead8_error hread
    cases hi
  · have hg := form_of_illegalOpcode hx
    rw [exec_of_form hg] at hx
    cases hx
    exact ⟨hr, rfl, opcode_read_of_form hf hg rfl, mem_illegalBytes_of_form hg⟩

/-- A step raises `BankOutOfRange` only in a Running core, with an index beyond the image that its address resolves to
(R282). -/
theorem step_bankOutOfRange_index {a : Word} {i : Nat} (h : step s = .fault (.bankOutOfRange a i)) :
    s.runState = .running ∧ s.romIndex a = some i ∧ s.romSize ≤ i := by
  obtain ⟨hr, -⟩ := step_fault h
  obtain ⟨b, hread⟩ := step_bankOutOfRange h
  obtain ⟨j, hj, hindex⟩ := memRead8_error hread
  cases hj
  exact ⟨hr, hindex⟩

/-! ### The report, by the outcome of the step -/

theorem driverStep_of_paused (hr : s.runState ≠ .running) :
    s.driverStep = (.idle, s.addCycles s.params.durIdle) := by
  simp only [State.driverStep, step_paused hr, if_neg hr]

theorem driverStep_of_next (hr : s.runState = .running) (h : step s = .next t) : s.driverStep = (.ok, t) := by
  simp only [State.driverStep, h, if_pos hr]

theorem driverStep_of_illegalOpcode {a : Word} (h : step s = .fault (.illegalOpcode a op)) :
    s.driverStep = (.illegalOpcode a op, s) := by
  simp only [State.driverStep, h]

theorem driverStep_of_bankOutOfRange {a : Word} {i : Nat} (h : step s = .fault (.bankOutOfRange a i)) :
    s.driverStep = (.bankOutOfRange a i, s) := by
  simp only [State.driverStep, h]

/-- Settles O16: a paused core reports Idle; a Running one reports the outcome of its step, where each fault says what
it needs of the state (`step_illegalOpcode`, `step_bankOutOfRange_index`) and no step refuses. -/
theorem stepReportsAreTheSpecs : Obligations.StepReportsAreTheSpecs := by
  intro s
  refine ⟨?report, fun hr => ?idle, fun t hr h => ?ok, fun op hr h₀ hop => ?illegal⟩
  case idle => rw [driverStep_of_paused hr]
  case ok => rw [driverStep_of_next hr h]
  case illegal => rw [driverStep_of_illegalOpcode (step_of_illegalByte hr h₀ hop)]
  case report =>
    by_cases hr : s.runState = .running
    · match h : step s with
      | .next t => rw [driverStep_of_next hr h]; exact ⟨hr, rfl⟩
      | .fault (.illegalOpcode a op) =>
        obtain ⟨-, ha, h₀, hop⟩ := step_illegalOpcode h
        rw [driverStep_of_illegalOpcode h]
        exact ⟨hr, rfl, ha, h₀, hop⟩
      | .fault (.bankOutOfRange a i) =>
        obtain ⟨-, hindex, hbeyond⟩ := step_bankOutOfRange_index h
        rw [driverStep_of_bankOutOfRange h]
        exact ⟨hr, rfl, hindex, hbeyond⟩
      | .refused e => exact absurd h step_not_refused
    · rw [driverStep_of_paused hr]
      exact ⟨hr, rfl⟩

end Sys2Proof.Machine
end
